-- ==== Sys2Proof/Word.lean ====
section
/-! DEFINITION. The two kinds of word the spec gives: the byte of frames and messages, and head time. -/

namespace Sys2Proof

/-- A byte of an umbilical frame or a sensor bus message. -/
abbrev Byte := BitVec 8

/-- Head time: a 32-bit count of milliseconds from the last hardware reset, which wraps
(00_scope.md, Numeric conventions). Deadlines, due times and trip times are head times. -/
abbrev HeadTime := BitVec 32

end Sys2Proof
end

