-- ==== Sys2Proof/Syntax.lean ====
section
/-! DEFINITION. The commands: one constructor of `Instr` per row of spec/opcode_table.json, with the operands its rule
gives it, and the small types those operands are made of. -/

namespace Sys2Proof

/-- The two drums (00_scope.md, Frame of reference). -/
inductive Drum where
  | left
  | right
deriving DecidableEq, Repr

/-- The four steering plates (00_scope.md, Frame of reference). -/
inductive PlateId where
  | p1
  | p2
  | p3
  | p4
deriving DecidableEq, Repr

/-- The protected units: each of them can trip (chapter 4). -/
inductive ProtectedUnit where
  | drum (d : Drum)
  | pump
deriving DecidableEq, Repr

/-- A character received on the downlink pair: its data, its parity bit, and the level of its stop bit (R168). -/
structure LinkChar where
  data : Byte
  parity : Bool
  stop : Bool
deriving DecidableEq, Repr

/-- A 9-bit character received on the head sensor bus: its marker, its byte, and the level of its stop bit (R133). -/
structure BusChar where
  marker : Bool
  data : Byte
  stop : Bool
deriving DecidableEq, Repr

/-- The causes that discard a frame, but for the gap, which is a command of its own (R174). -/
inductive DiscardCause where
  | characterError
  | length
  | crc
  | kind
  | wrongLength
deriving DecidableEq, Repr

/-- The fields of a CONTROL frame, as received (09_umbilical_link.md, section 9.5). -/
structure ControlFields where
  depth : BitVec 32
  nSet : BitVec 16
  enableL : Byte
  enableR : Byte
  directionL : Byte
  directionR : Byte
  pumpEnable : Byte
  pumpSetpoint : BitVec 16
  supplyDensity : BitVec 16
  mode : Byte
  manualDelta : BitVec 16
  manualP1 : BitVec 16
  manualP2 : BitVec 16
  manualP3 : BitVec 16
  manualP4 : BitVec 16
deriving DecidableEq, Repr

/-- The commands of the block: the rows of spec/opcode_table.json. Frame commands carry the frame's tag. -/
inductive Instr where
  /-- HARDWARE_RESET (R182): power-on, or a low level on RSTn. -/
  | hardwareReset
  /-- SYNC_CHARACTER (R170): a character received on the downlink pair. -/
  | syncCharacter (c : LinkChar)
  /-- HUNT_DWELL_EXPIRY (R169). -/
  | huntDwellExpiry
  /-- FRAME_DISCARD (R175): a downlink frame arrives that fails a check. -/
  | frameDiscard (cause : DiscardCause)
  /-- FRAME_GAP_TIMEOUT (R174): more than 3 character times pass inside a frame. -/
  | frameGapTimeout
  /-- CONTROL (R176). -/
  | control (tag : Byte) (fields : ControlFields)
  /-- TABLE_OPEN (R153). -/
  | tableOpen (tag table : Byte)
  /-- TABLE_WRITE (R154): the payload is the table id, the row and the bytes of the row's fields. -/
  | tableWrite (tag table row : Byte) (fields : List Byte)
  /-- TABLE_ACTIVATE (R156). -/
  | tableActivate (tag table : Byte)
  /-- TABLE_READ (R160): `extra` is what the payload holds beyond its first three bytes. -/
  | tableRead (tag table bank row : Byte) (extra : List Byte)
  /-- PANEL_START (R24, R25): `ox` and `oy` are signed. -/
  | panelStart (tag : Byte) (d0 : BitVec 32) (ox oy : BitVec 16)
  /-- LOG_READ (R188). -/
  | logRead (tag : Byte) (first : BitVec 16) (count : Byte)
  /-- CLEAR (R190). -/
  | clear (tag selector : Byte)
  /-- NODE_ACCESS (R145). -/
  | nodeAccess (tag address op register : Byte) (value : BitVec 16)
  /-- STATUS_REQUEST (R184). -/
  | statusRequest (tag : Byte)
  /-- ECHO (R178). -/
  | echo (tag : Byte) (payload : List Byte)
  /-- HEAD_RESET (R191). -/
  | headReset (tag : Byte)
  /-- LINK_TIMEOUT (R171). -/
  | linkTimeout
  /-- RELOCK_TIMEOUT (R172). -/
  | relockTimeout
  /-- STATUS_DEADLINE (R184). -/
  | statusDeadline
  /-- SLOT_DUE (R143): the due time of the slot of this number is reached. -/
  | slotDue (slot : Nat)
  /-- PAIR_RELEASE (R134). -/
  | pairRelease
  /-- RESPONSE_COMPLETE (R136): `chars` are the characters of the response, address character first, CRC last. -/
  | responseComplete (chars : List BusChar)
  /-- RESPONSE_TIMEOUT (R135). -/
  | responseTimeout
  /-- QUIET_END (R150). -/
  | quietEnd
  /-- OFF_TIME_EXPIRY (R83, R84). -/
  | offTimeExpiry (unit : ProtectedUnit)
  /-- PRIME_TIMEOUT (R101). -/
  | primeTimeout
  /-- DRY_TIMEOUT (R102). -/
  | dryTimeout
  /-- REFRESH_DEADLINE (R112). -/
  | refreshDeadline
  /-- STROKE_TIMEOUT (R125). -/
  | strokeTimeout (plate : PlateId)
  /-- DWELL_END (R121). -/
  | dwellEnd (plate : PlateId)
  /-- UPLINK_FRAME_END (R179). -/
  | uplinkFrameEnd
  /-- SYNC_REPLY_END (R170). -/
  | syncReplyEnd
deriving DecidableEq, Repr

end Sys2Proof
end

