-- ==== Sys2Proof/Machine/Arith.lean ====
section
/-! DEFINITION. The numeric conventions of 00_scope.md: rounding, clamping, head time, and the bytes and checks of frames
and messages. -/

namespace Sys2Proof.Machine

/-- The quotient of `n` by a positive `d`, rounded to nearest, halves away from zero (00_scope.md, Rounding). -/
def roundDiv (n : Int) (d : Nat) : Int :=
  let q : Int := ((2 * n.natAbs + d) / (2 * d) : Nat)
  if n < 0 then -q else q

/-- A value replaced by the nearest limit of the range `lo` to `hi` (00_scope.md, Clamping). -/
def clamp (lo hi v : Int) : Int := max lo (min hi v)

/-- The interval from one head time to a later one, modulo 2³² (00_scope.md, Head time). -/
def interval (start stop : HeadTime) : Nat := (stop - start).toNat

/-- A head time some milliseconds ahead, modulo 2³². -/
def after (start : HeadTime) (ms : Nat) : HeadTime := start + BitVec.ofNat 32 ms

/-- Whether head time has reached a deadline: the interval from the deadline to now is less than 2³¹, the test R143
gives for a due slot, used for every deadline (log 19). -/
def reached (deadline now : HeadTime) : Bool := decide (interval deadline now < 2147483648)

/-- Whether a deadline that may be none is running and has been reached. -/
def expired (deadline : Option HeadTime) (now : HeadTime) : Bool :=
  match deadline with
  | none => false
  | some t => reached t now

/-- The time since an earlier sample, at most one second; 0 when there was none (R57, R106). -/
def elapsed (previous : Option HeadTime) (now : HeadTime) : Nat :=
  match previous with
  | none => 0
  | some t => min (interval t now) 1000

/-- The `n` low bytes of a natural number, least significant first (00_scope.md, Wire encoding). -/
def leBytes : Nat → Nat → List Byte
  | 0, _ => []
  | n + 1, v => BitVec.ofNat 8 v :: leBytes n (v / 256)

/-- The `n` low bytes of an integer in two's complement, least significant first. -/
def leInt (n : Nat) (v : Int) : List Byte := leBytes n (v % (256 ^ n : Nat)).toNat

/-- The number that bytes spell, least significant first. -/
def ofLe : List Byte → Nat
  | [] => 0
  | b :: bs => b.toNat + 256 * ofLe bs

/-- The integer that bytes spell in two's complement, least significant first. -/
def ofLeSigned (bs : List Byte) : Int :=
  if 2 * ofLe bs < 256 ^ bs.length then (ofLe bs : Int) else (ofLe bs : Int) - (256 ^ bs.length : Nat)

/-- A Boolean as a byte of a frame. -/
def boolNat (b : Bool) : Nat := if b then 1 else 0

/-- `n` steps of division by x⁸ + x² + x + 1, most significant bit first (R136). -/
def crc8Shift : Nat → BitVec 8 → BitVec 8
  | 0, c => c
  | n + 1, c => crc8Shift n (if c.msb then (c <<< 1) ^^^ 0x07#8 else c <<< 1)

/-- The CRC-8 of sensor bus messages: polynomial x⁸ + x² + x + 1, initial value 0, no final inversion (R136). -/
def crc8 (bs : List Byte) : BitVec 8 := bs.foldl (fun c b => crc8Shift 8 (c ^^^ b)) 0#8

/-- `n` steps of division by x¹⁶ + x¹² + x⁵ + 1, most significant bit first. -/
def crc16Shift : Nat → BitVec 16 → BitVec 16
  | 0, c => c
  | n + 1, c => crc16Shift n (if c.msb then (c <<< 1) ^^^ 0x1021#16 else c <<< 1)

/-- The CRC-16 of umbilical frames: polynomial x¹⁶ + x¹² + x⁵ + 1, initial value 0xFFFF, no final inversion
(09_umbilical_link.md, section 9.4). -/
def crc16 (bs : List Byte) : BitVec 16 :=
  bs.foldl (fun c b => crc16Shift 8 (c ^^^ (b.setWidth 16).shiftLeft 8)) 0xFFFF#16

/-- The number of ones among the data bits. -/
def onesCount (b : Byte) : Nat := ((List.range 8).filter (fun i => b.getLsbD i)).length

/-- A parity error: the ones among the data bits and the parity bit are odd in number (R168). -/
def parityError (c : LinkChar) : Bool := (onesCount c.data + boolNat c.parity) % 2 == 1

/-- A character in error: a parity error, or a stop bit at the wrong level (R168). -/
def charError (c : LinkChar) : Bool := parityError c || !c.stop

/-- The start character of every umbilical frame (section 9.4). -/
def frameStart : Byte := 0xC3#8

/-- An umbilical frame: start, length, kind, tag, payload and the CRC-16, low byte first (section 9.4). -/
def frameBytes (kind tag : Byte) (payload : List Byte) : List Byte :=
  let body := BitVec.ofNat 8 payload.length :: kind :: tag :: payload
  frameStart :: (body ++ leBytes 2 (crc16 body).toNat)

end Sys2Proof.Machine
end

