-- ==== Sys2Proof/WellFormed.lean ====
section
/-! DEFINITION. Which commands can arrive: the checks on operands that the types of `Instr` do not make already. -/

namespace Sys2Proof

/-- A downlink frame carries at most 120 payload bytes (09_umbilical_link.md, section 9.4). -/
def maxDownlinkPayload : Nat := 120

/-- Whether the characters are exactly one complete response: address, kind, length, as many payload characters as the
length names, and one CRC character (R135). -/
def completeResponse : List BusChar → Bool
  | _ :: _ :: len :: rest => decide (rest.length = len.data.toNat + 1)
  | _ => false

/-- A command that can arrive: its frame fits the downlink, its slot number is a row of the Poll Table, its response is
complete. -/
def Instr.wellFormed : Instr → Bool
  | .tableWrite _ _ _ fields => decide (fields.length + 2 ≤ maxDownlinkPayload)
  | .tableRead _ _ _ _ extra => decide (extra.length + 3 ≤ maxDownlinkPayload)
  | .echo _ payload => decide (payload.length ≤ maxDownlinkPayload)
  | .slotDue slot => decide (1 ≤ slot ∧ slot ≤ 16)
  | .responseComplete chars => completeResponse chars
  | .hardwareReset => true
  | .syncCharacter _ => true
  | .huntDwellExpiry => true
  | .frameDiscard _ => true
  | .frameGapTimeout => true
  | .control _ _ => true
  | .tableOpen _ _ => true
  | .tableActivate _ _ => true
  | .panelStart _ _ _ _ => true
  | .logRead _ _ _ => true
  | .clear _ _ => true
  | .nodeAccess _ _ _ _ _ => true
  | .statusRequest _ => true
  | .headReset _ => true
  | .linkTimeout => true
  | .relockTimeout => true
  | .statusDeadline => true
  | .pairRelease => true
  | .responseTimeout => true
  | .quietEnd => true
  | .offTimeExpiry _ => true
  | .primeTimeout => true
  | .dryTimeout => true
  | .refreshDeadline => true
  | .strokeTimeout _ => true
  | .dwellEnd _ => true
  | .uplinkFrameEnd => true
  | .syncReplyEnd => true

end Sys2Proof
end

