-- ==== Sys2Proof/Decode.lean ====
section
/-! DEFINITION. What words and frames spell: the opcode table gives its rows no bits, so no word spells a command; the
downlink frames of 09, sections 9.4 and 9.5 do, and they are read and written here. -/

namespace Sys2Proof

open Sys2Proof.Machine

/-- The command a word spells by the table's bits: none, for no row of spec/opcode_table.json has any (log 27). -/
def decodeTableWord (_nbits _w : Nat) : Option Instr := none

/-- The payload of a CONTROL frame, 26 bytes (section 9.5). -/
def controlBytes (f : ControlFields) : List Byte :=
  leBytes 4 f.depth.toNat ++ leBytes 2 f.nSet.toNat
    ++ [f.enableL, f.enableR, f.directionL, f.directionR, f.pumpEnable]
    ++ leBytes 2 f.pumpSetpoint.toNat ++ leBytes 2 f.supplyDensity.toNat ++ [f.mode]
    ++ leBytes 2 f.manualDelta.toNat ++ leBytes 2 f.manualP1.toNat ++ leBytes 2 f.manualP2.toNat
    ++ leBytes 2 f.manualP3.toNat ++ leBytes 2 f.manualP4.toNat

/-- The fields of a CONTROL payload of 26 bytes (section 9.5). -/
def controlOf : List Byte → Option ControlFields
  | [d0, d1, d2, d3, n0, n1, eL, eR, dL, dR, pe, s0, s1, r0, r1, m, a0, a1, t0, t1, u0, u1, v0, v1, w0, w1] =>
    some
      { depth := BitVec.ofNat 32 (ofLe [d0, d1, d2, d3]), nSet := BitVec.ofNat 16 (ofLe [n0, n1]), enableL := eL,
        enableR := eR, directionL := dL, directionR := dR, pumpEnable := pe,
        pumpSetpoint := BitVec.ofNat 16 (ofLe [s0, s1]), supplyDensity := BitVec.ofNat 16 (ofLe [r0, r1]), mode := m,
        manualDelta := BitVec.ofNat 16 (ofLe [a0, a1]), manualP1 := BitVec.ofNat 16 (ofLe [t0, t1]),
        manualP2 := BitVec.ofNat 16 (ofLe [u0, u1]), manualP3 := BitVec.ofNat 16 (ofLe [v0, v1]),
        manualP4 := BitVec.ofNat 16 (ofLe [w0, w1]) }
  | _ => none

/-- The frame of a command: kind code, tag and payload; none for a command that is no frame (section 9.4). -/
def frameOf : Instr → Option (Byte × Byte × List Byte)
  | .control tag f => some (0x10#8, tag, controlBytes f)
  | .tableOpen tag t => some (0x20#8, tag, [t])
  | .tableWrite tag t row fields => some (0x21#8, tag, t :: row :: fields)
  | .tableActivate tag t => some (0x22#8, tag, [t])
  | .tableRead tag t bank row extra => some (0x23#8, tag, t :: bank :: row :: extra)
  | .panelStart tag d0 ox oy => some (0x30#8, tag, leBytes 4 d0.toNat ++ leBytes 2 ox.toNat ++ leBytes 2 oy.toNat)
  | .logRead tag first count => some (0x31#8, tag, leBytes 2 first.toNat ++ [count])
  | .clear tag selector => some (0x32#8, tag, [selector])
  | .nodeAccess tag address op register value =>
    some (0x33#8, tag, address :: op :: register :: leBytes 2 value.toNat)
  | .statusRequest tag => some (0x34#8, tag, [])
  | .echo tag payload => some (0x35#8, tag, payload)
  | .headReset tag => some (0x3F#8, tag, [])
  | .hardwareReset => none
  | .syncCharacter _ => none
  | .huntDwellExpiry => none
  | .frameDiscard _ => none
  | .frameGapTimeout => none
  | .linkTimeout => none
  | .relockTimeout => none
  | .statusDeadline => none
  | .slotDue _ => none
  | .pairRelease => none
  | .responseComplete _ => none
  | .responseTimeout => none
  | .quietEnd => none
  | .offTimeExpiry _ => none
  | .primeTimeout => none
  | .dryTimeout => none
  | .refreshDeadline => none
  | .strokeTimeout _ => none
  | .dwellEnd _ => none
  | .uplinkFrameEnd => none
  | .syncReplyEnd => none

/-- The bytes the surface unit sends for a frame command, start character first (section 9.4). -/
def encodeFrame (i : Instr) : Option (List Byte) := (frameOf i).map (fun f => frameBytes f.1 f.2.1 f.2.2)

/-- The command a kind, a tag and a payload spell; none for a kind that is not a downlink kind, and for a length that
is not the kind's (R174). -/
def payloadCommand (kind tag : Byte) (payload : List Byte) : Option Instr :=
  match kind.toNat, payload with
  | 0x10, p => (controlOf p).map (fun f => .control tag f)
  | 0x20, [t] => some (.tableOpen tag t)
  | 0x21, t :: row :: fields => some (.tableWrite tag t row fields)
  | 0x22, [t] => some (.tableActivate tag t)
  | 0x23, t :: bank :: row :: extra => some (.tableRead tag t bank row extra)
  | 0x30, [d0, d1, d2, d3, x0, x1, y0, y1] =>
    some (.panelStart tag (BitVec.ofNat 32 (ofLe [d0, d1, d2, d3])) (BitVec.ofNat 16 (ofLe [x0, x1]))
      (BitVec.ofNat 16 (ofLe [y0, y1])))
  | 0x31, [f0, f1, count] => some (.logRead tag (BitVec.ofNat 16 (ofLe [f0, f1])) count)
  | 0x32, [selector] => some (.clear tag selector)
  | 0x33, [address, op, register, v0, v1] =>
    some (.nodeAccess tag address op register (BitVec.ofNat 16 (ofLe [v0, v1])))
  | 0x34, [] => some (.statusRequest tag)
  | 0x35, p => some (.echo tag p)
  | 0x3F, [] => some (.headReset tag)
  | _, _ => none

/-- The command of a frame complete on its second CRC byte, given its characters after the start character; none when
a check at completion fails: CRC, kind, or length (R174). -/
def decodeFrame : List Byte → Option Instr
  | len :: kind :: tag :: rest =>
    let payload := rest.take len.toNat
    if leBytes 2 (crc16 (len :: kind :: tag :: payload)).toNat = rest.drop len.toNat then
      payloadCommand kind tag payload
    else none
  | _ => none

end Sys2Proof
end

