-- ==== Sys2Proof/Config.lean ====
section
/-! DEFINITION. What the spec leaves open, as constants without a body: no proof can see which value they have. -/

namespace Sys2Proof.Config

/-- The order of timer expiries that are due at the same head time: the first argument is `State.freeSeq` when they
are fired, the second the code of the expiry; a lower rank is taken first. "Either may be taken first" is the spec's
word wherever two events arrive together (R88, R113, R125 and others). Log 3. -/
opaque expiryRank : Nat → Nat → Nat

/-- Whether a consumer takes the ALIVE notice of a response before its sample ("in either order", R141).
The argument is `State.freeSeq`. Log 12. -/
opaque noticeBeforeSample : Nat → Bool

/-- Whether the last N_meas that a drum sample leaves, when its response also makes the node ALIVE and a direction change
is pending, is measured in the direction the change leads to. R71 has both orders of notice and sample leave one value;
R55 gives each order another, and no rule says which holds. The argument is `State.freeSeq`. Log 31. -/
opaque nMeasAfterChange : Nat → Bool

/-- Whether the Steering Planner takes a HEAD RESET before the Plate Positioner ("in no order among themselves", R191).
The argument is `State.freeSeq`. Log 13. -/
opaque plannerResetFirst : Nat → Bool

end Sys2Proof.Config
end

