-- ==== Sys2Proof/Machine/Tables.lean ====
section
/-! DEFINITION. The seven tables of the Table Store with their built-in defaults (08_table_store.md, section 8.6). -/

namespace Sys2Proof.Machine

/-- Policy of a protected unit at the end of an off-time (chapter 4). -/
inductive Policy where
  | auto
  | hold
deriving DecidableEq, Repr

/-- What a sensor node measures (8.6.2). -/
inductive Role where
  | inclA
  | inclB
  | drumL
  | drumR
  | slurry
  | flap
  | aux
deriving DecidableEq, Repr

/-- The two inclinometers (chapter 1). -/
inductive Sensor where
  | a
  | b
deriving DecidableEq, Repr

/-- Row 0 of the Drum Table (8.6.1). -/
structure DrumParams where
  nMax : Nat
  rampUp : Nat
  rampDown : Nat
  stopRate : Nat
  pTrip : Nat
  offTime : Nat
  tripLimit : Nat
  tripWindow : Nat
  policy : Policy
  ki : Nat
  trimLimit : Nat
  nL : Nat
  nR : Nat
deriving DecidableEq, Repr

/-- A feed-forward point of the Drum Table (8.6.1). -/
structure CurvePoint where
  speed : Nat
  duty : Nat
deriving DecidableEq, Repr

/-- The Drum Table: rows 1 to 8 are `curveL`, rows 9 to 16 `curveR`. -/
structure DrumTable where
  params : DrumParams
  curveL : List CurvePoint
  curveR : List CurvePoint
deriving DecidableEq, Repr

/-- Row 0 of the Poll Table (8.6.2). -/
structure PollParams where
  rate : Nat
  responseTimeout : Nat
  turnaround : Nat
  lostLimit : Nat
  slotCount : Nat
deriving DecidableEq, Repr

/-- A poll slot of the Poll Table (8.6.2). -/
structure PollRow where
  address : Nat
  role : Role
  period : Nat
  relayBad : Bool
  noRelay : Bool
deriving DecidableEq, Repr

/-- The Poll Table: `rows` are rows 1 to 16. -/
structure PollTable where
  params : PollParams
  rows : List PollRow
deriving DecidableEq, Repr

/-- Row 0 of the Mounting Table (8.6.3). -/
structure MountingParams where
  stationInterval : Nat
  backoff : Nat
  maxDepthStep : Nat
  agreementXY : Nat
  agreementTwist : Nat
  primary : Sensor
deriving DecidableEq, Repr

/-- The mounting offsets of one sensor (8.6.3). -/
structure MountingOffsets where
  x : Int
  y : Int
  twist : Int
deriving DecidableEq, Repr

/-- The Mounting Table: row 1 is `offsetsA`, row 2 `offsetsB`. -/
structure MountingTable where
  params : MountingParams
  offsetsA : MountingOffsets
  offsetsB : MountingOffsets
deriving DecidableEq, Repr

/-- A plan point of the Plan Table (8.6.4). -/
structure PlanRow where
  depth : Nat
  x : Int
  y : Int
  twist : Int
deriving DecidableEq, Repr

/-- The Plan Table: the count of row 0, and rows 1 to 32. -/
structure PlanTable where
  count : Nat
  rows : List PlanRow
deriving DecidableEq, Repr

/-- Row 0 of the Steering Table (8.6.5). -/
structure SteeringParams where
  lookahead : Nat
  toleranceX : Nat
  toleranceY : Nat
  nX : Nat
  nY : Nat
  nT : Nat
  deadband : Nat
  strokeTimeout : Nat
  reversalDwell : Nat
deriving DecidableEq, Repr

/-- A correction band of the Steering Table (8.6.5). -/
structure Band where
  edge : Nat
  output : Nat
deriving DecidableEq, Repr

/-- The Steering Table: rows 1 to 8, 9 to 16 and 17 to 24 are the sections X, Y and twist. -/
structure SteeringTable where
  params : SteeringParams
  bandsX : List Band
  bandsY : List Band
  bandsT : List Band
deriving DecidableEq, Repr

/-- Row 0 of the Slurry Table (8.6.6). -/
structure SlurryGround where
  solidsDensity : Nat
  panelLength : Nat
  panelWidth : Nat
  accountMax : Nat
deriving DecidableEq, Repr

/-- Row 1 of the Slurry Table (8.6.6). -/
structure SlurryLevels where
  up1 : Nat
  dn1 : Nat
  up2 : Nat
  dn2 : Nat
  up3 : Nat
  dn3 : Nat
  f0 : Nat
  f1 : Nat
  f2 : Nat
  f3 : Nat
  holdLevel : Nat
  holdTime : Nat
  noReturnFactor : Nat
deriving DecidableEq, Repr

/-- Row 2 of the Slurry Table (8.6.6). -/
structure SlurryPump where
  maxDuty : Nat
  qMin : Nat
  suctionMin : Int
  dryTime : Nat
  primeTime : Nat
  offTime : Nat
  tripLimit : Nat
  tripWindow : Nat
  policy : Policy
deriving DecidableEq, Repr

/-- The Slurry Table. -/
structure SlurryTable where
  ground : SlurryGround
  levels : SlurryLevels
  pump : SlurryPump
deriving DecidableEq, Repr

/-- The Link Table (8.6.7). -/
structure LinkTable where
  linkTimeout : Nat
  relockTimeout : Nat
  statusPeriod : Nat
  telemetry : Bool
deriving DecidableEq, Repr

/-- One bank of each of the seven tables (R151). -/
structure Tables where
  drum : DrumTable
  poll : PollTable
  mounting : MountingTable
  plan : PlanTable
  steering : SteeringTable
  slurry : SlurryTable
  link : LinkTable
deriving DecidableEq, Repr

/-- The seven table ids (8.1). -/
inductive TableId where
  | drum
  | poll
  | mounting
  | plan
  | steering
  | slurry
  | link
deriving DecidableEq, Repr

/-- The default feed-forward curve: the first row (0, 0), the others (400, 1,000) (8.6.1). -/
def defaultCurve : List CurvePoint := ⟨0, 0⟩ :: List.replicate 7 ⟨400, 1000⟩

/-- The default Drum Table (8.6.1). -/
def defaultDrumTable : DrumTable where
  params :=
    { nMax := 0, rampUp := 20, rampDown := 40, stopRate := 80, pTrip := 3200, offTime := 2000, tripLimit := 3,
      tripWindow := 60, policy := .auto, ki := 16, trimLimit := 150, nL := 2, nR := 2 }
  curveL := defaultCurve
  curveR := defaultCurve

/-- The default poll slot of a row: its address is the row number (8.6.2). -/
def defaultPollRow (row : Nat) : PollRow :=
  { address := row, role := .aux, period := 1000, relayBad := false, noRelay := false }

/-- The default Poll Table (8.6.2). -/
def defaultPollTable : PollTable where
  params := { rate := 2, responseTimeout := 5, turnaround := 20, lostLimit := 3, slotCount := 0 }
  rows := [1, 2, 3, 4, 5, 6, 7, 8, 9, 10, 11, 12, 13, 14, 15, 16].map defaultPollRow

/-- The default Mounting Table (8.6.3). -/
def defaultMountingTable : MountingTable where
  params :=
    { stationInterval := 500, backoff := 300, maxDepthStep := 500, agreementXY := 2000, agreementTwist := 50,
      primary := .a }
  offsetsA := ⟨0, 0, 0⟩
  offsetsB := ⟨0, 0, 0⟩

/-- The default Plan Table (8.6.4). -/
def defaultPlanTable : PlanTable := { count := 0, rows := List.replicate 32 ⟨0, 0, 0, 0⟩ }

/-- The default Steering Table (8.6.5). -/
def defaultSteeringTable : SteeringTable where
  params :=
    { lookahead := 0, toleranceX := 300, toleranceY := 300, nX := 0, nY := 0, nT := 0, deadband := 20,
      strokeTimeout := 15000, reversalDwell := 200 }
  bandsX := List.replicate 8 ⟨1, 0⟩
  bandsY := List.replicate 8 ⟨1, 0⟩
  bandsT := List.replicate 8 ⟨1, 0⟩

/-- The default Slurry Table (8.6.6). -/
def defaultSlurryTable : SlurryTable where
  ground := { solidsDensity := 2650, panelLength := 2800, panelWidth := 1200, accountMax := 2000000 }
  levels :=
    { up1 := 150000, dn1 := 100000, up2 := 300000, dn2 := 200000, up3 := 500000, dn3 := 350000, f0 := 1000, f1 := 750,
      f2 := 500, f3 := 250, holdLevel := 2, holdTime := 3000, noReturnFactor := 250 }
  pump :=
    { maxDuty := 0, qMin := 300, suctionMin := -40, dryTime := 5000, primeTime := 20000, offTime := 5000,
      tripLimit := 3, tripWindow := 120, policy := .auto }

/-- The default Link Table (8.6.7). -/
def defaultLinkTable : LinkTable :=
  { linkTimeout := 500, relockTimeout := 5000, statusPeriod := 1000, telemetry := true }

/-- The built-in defaults, which stand in both banks after hardware reset (section 8.5, R167). -/
def defaultTables : Tables where
  drum := defaultDrumTable
  poll := defaultPollTable
  mounting := defaultMountingTable
  plan := defaultPlanTable
  steering := defaultSteeringTable
  slurry := defaultSlurryTable
  link := defaultLinkTable

end Sys2Proof.Machine
end

