-- ==== Sys2Proof/Machine/Blocks.lean ====
section
/-! DEFINITION. The state of each block, with its value after hardware reset. -/

namespace Sys2Proof.Machine

/-- Four like things, one for each plate. -/
structure Quad (α : Type) where
  p1 : α
  p2 : α
  p3 : α
  p4 : α
deriving DecidableEq, Repr

/-- The item of one plate. -/
def Quad.get {α : Type} (q : Quad α) : PlateId → α
  | .p1 => q.p1
  | .p2 => q.p2
  | .p3 => q.p3
  | .p4 => q.p4

/-- The four items replaced, each by a function of its plate and itself. -/
def Quad.mapPlates {α β : Type} (f : PlateId → α → β) (q : Quad α) : Quad β :=
  ⟨f .p1 q.p1, f .p2 q.p2, f .p3 q.p3, f .p4 q.p4⟩

/-- The item of one plate replaced. -/
def Quad.set {α : Type} (q : Quad α) (p : PlateId) (a : α) : Quad α :=
  match p with
  | .p1 => { q with p1 := a }
  | .p2 => { q with p2 := a }
  | .p3 => { q with p3 := a }
  | .p4 => { q with p4 := a }

/-- The same item for each plate. -/
def Quad.all {α : Type} (a : α) : Quad α := ⟨a, a, a, a⟩

/-! ### Verticality Tracker (01, section 1.1) -/

/-- The VTR state (R1). -/
inductive VtrState where
  | noPanel
  | advancing
  | aboveFace
  | noDepth
deriving DecidableEq, Repr

/-- The open station accumulators of one sensor. -/
structure Accumulator where
  sumX : Int
  sumY : Int
  sumTwist : Int
  count : Nat
deriving DecidableEq, Repr

/-- The flags of a station record (R18). -/
structure StationFlags where
  start : Bool
  held : Bool
  single : Bool
  disagree : Bool
  saturated : Bool
  long : Bool
deriving DecidableEq, Repr

/-- A station record (section 1.6). -/
structure StationRecord where
  index : Nat
  depth : Nat
  mX : Int
  mY : Int
  mT : Int
  sX : Int
  sY : Int
  sampleCount : Nat
  flags : StationFlags
deriving DecidableEq, Repr

/-- What the VTR holds. The Drift Log is oldest first. -/
structure Vtr where
  state : VtrState
  depth : Option Nat
  candidate : Option Nat
  dFace : Nat
  generation : BitVec 16
  log : List StationRecord
  accA : Accumulator
  accB : Accumulator
  saturated : Bool
  logFullArmed : Bool
deriving DecidableEq, Repr

/-- Accumulators with zero sums and zero count. -/
def emptyAccumulator : Accumulator := ⟨0, 0, 0, 0⟩

/-- The tracker after hardware reset (R27). -/
def resetVtr : Vtr where
  state := .noPanel
  depth := none
  candidate := none
  dFace := 0
  generation := 0
  log := []
  accA := emptyAccumulator
  accB := emptyAccumulator
  saturated := false
  logFullArmed := true

/-! ### Steering Planner (02, section 2.1) -/

/-- The errors of an AUTO computation (R37). -/
structure SteeringErrors where
  ex : Int
  ey : Int
  w : Int
deriving DecidableEq, Repr

/-- What the SPL holds. -/
structure Spl where
  deltaN : Int
  targets : Quad Nat
  lastErrors : Option SteeringErrors
  manualDelta : Int
deriving DecidableEq, Repr

/-- The planner after hardware reset (R46), and after HEAD RESET (R47). -/
def resetSpl : Spl where
  deltaN := 0
  targets := .all 0
  lastErrors := none
  manualDelta := 0

/-! ### Protection (04, section 4.1) and Drum Governors (03, section 3.1) -/

/-- The substate of TRIP; the off-time deadline exists while TIMING (R76, R81). -/
inductive TripPhase where
  | timing (deadline : HeadTime)
  | waiting
deriving DecidableEq, Repr

/-- The trip history, oldest first, the trip latch and the restart permit of a protected unit. -/
structure Protection where
  history : List HeadTime
  latch : Bool
  permit : Bool
deriving DecidableEq, Repr

/-- Protection after hardware reset (R91). -/
def resetProtection : Protection where
  history := []
  latch := false
  permit := false

/-- A direction of drum rotation. -/
inductive Direction where
  | inward
  | outward
deriving DecidableEq, Repr

/-- The state of a governor (R48). -/
inductive GovernorState where
  | off
  | run
  | stopping
  | trip (phase : TripPhase)
  | lockout
  | nofb
deriving DecidableEq, Repr

/-- What a governor holds: `speed` is C, `integrator` is I, `nMeas` the last N_meas. -/
structure Governor where
  state : GovernorState
  speed : Nat
  residue : Nat
  integrator : Int
  duty : Nat
  running : Direction
  requested : Direction
  lastEnable : Bool
  prevUpdate : Option HeadTime
  nMeas : Nat
  prot : Protection
deriving DecidableEq, Repr

/-- A governor after hardware reset (R74, R91). -/
def resetGovernor : Governor where
  state := .off
  speed := 0
  residue := 0
  integrator := 0
  duty := 0
  running := .inward
  requested := .inward
  lastEnable := true
  prevUpdate := none
  nMeas := 0
  prot := resetProtection

/-! ### Slurry Return Unit (05, section 5.1) -/

/-- The state of the pump (R93). -/
inductive PumpState where
  | off
  | prime
  | run
  | trip (phase : TripPhase)
  | lockout
deriving DecidableEq, Repr

/-- What the SRU holds: `account` is A, `supplyDensity` is ρ_f; `held` is the feed-hold state HELD. -/
structure Sru where
  pump : PumpState
  setpoint : Nat
  duty : Nat
  lastEnable : Bool
  primeDeadline : Option HeadTime
  dryDeadline : Option HeadTime
  supplyDensity : Nat
  prevSample : Option HeadTime
  account : Nat
  residueR : Nat
  residueC : Nat
  level : Nat
  held : Bool
  refreshDeadline : Option HeadTime
  prot : Protection
deriving DecidableEq, Repr

/-- The SRU after hardware reset (R115, R91). -/
def resetSru : Sru where
  pump := .off
  setpoint := 0
  duty := 0
  lastEnable := true
  primeDeadline := none
  dryDeadline := none
  supplyDensity := 1000
  prevSample := none
  account := 0
  residueR := 0
  residueC := 0
  level := 0
  held := false
  refreshDeadline := none
  prot := resetProtection

/-! ### Plate Positioner (06, section 6.1) -/

/-- The stored mode (R118). -/
inductive Mode where
  | retract
  | auto
  | manual
deriving DecidableEq, Repr

/-- The effective mode (06, section 6.1, note 1). -/
inductive EffectiveMode where
  | retract
  | auto
  | manual
  | frozen
deriving DecidableEq, Repr

/-- A motion of a plate. -/
inductive Motion where
  | extend
  | retract
deriving DecidableEq, Repr

/-- The state of a plate (R117). -/
inductive PlateState where
  | hold
  | extend
  | retract
  | stuck
  | nofb
deriving DecidableEq, Repr

/-- A running reversal dwell: the motion it bars and the head time at which it ends (R121). -/
structure Bar where
  motion : Motion
  deadline : HeadTime
deriving DecidableEq, Repr

/-- What the PPS holds for one plate. -/
structure Plate where
  state : PlateState
  position : Option Nat
  strokeDeadline : Option HeadTime
  bar : Option Bar
  stuckLatch : Bool
deriving DecidableEq, Repr

/-- What the PPS holds. -/
structure Pps where
  mode : Mode
  manualTargets : Quad Nat
  plates : Quad Plate
deriving DecidableEq, Repr

/-- A plate after hardware reset (R131). -/
def resetPlate : Plate where
  state := .nofb
  position := none
  strokeDeadline := none
  bar := none
  stuckLatch := false

/-- The positioner after hardware reset (R131). -/
def resetPps : Pps where
  mode := .retract
  manualTargets := .all 0
  plates := .all resetPlate

/-! ### Sensor Bus Master (07, section 7.1) -/

/-- The state of a node, kept per slot (R138, R139). -/
inductive NodeState where
  | unknown
  | alive
  | lost
deriving DecidableEq, Repr

/-- What the SBM holds for one counted slot. -/
structure Slot where
  due : HeadTime
  failures : Nat
  node : NodeState
deriving DecidableEq, Repr

/-- The operation of a NODE ACCESS (R145). -/
inductive AccessOp where
  | read
  | write
deriving DecidableEq, Repr

/-- An accepted NODE ACCESS (R145). -/
structure Access where
  address : Nat
  op : AccessOp
  register : Byte
  value : BitVec 16
  tag : Byte
deriving DecidableEq, Repr

/-- What a transaction serves, fixed at its start (R134). `orphan` marks a slot transaction whose Poll Table has been
replaced since, so that its end changes no slot (R147, log 22). -/
inductive Serving where
  | slot (num : Nat) (role : Role) (relayBad noRelay orphan : Bool)
  | access (a : Access)
deriving DecidableEq, Repr

/-- A transaction, with what was fixed at its start (R134). -/
structure Transaction where
  serving : Serving
  address : Nat
  rate : Nat
  turnaround : Nat
  responseTimeout : Nat
deriving DecidableEq, Repr

/-- The bus state, with the transaction and the deadline that exist in it (R134, R150). -/
inductive BusState where
  | idle
  | request (tx : Transaction)
  | response (tx : Transaction) (deadline : HeadTime)
  | quiet (deadline : HeadTime)
deriving DecidableEq, Repr

/-- What the SBM holds; `slots` are the counted slots from slot 1 on. -/
structure Sbm where
  bus : BusState
  slots : List Slot
  access : Option Access
deriving DecidableEq, Repr

/-- The bus master after hardware reset (R149). -/
def resetSbm : Sbm where
  bus := .idle
  slots := []
  access := none

/-! ### Table Store (08, R151) -/

/-- The two banks of the Table Store. -/
structure Tst where
  active : Tables
  load : Tables
deriving DecidableEq, Repr

/-- The store after hardware reset (R167). -/
def resetTst : Tst where
  active := defaultTables
  load := defaultTables

/-! ### Report Unit (10) -/

/-- The kinds of event (10, section 10.2). -/
inductive EventKind where
  | linkLoss
  | linkRestored
  | frameErrors
  | nodeLost
  | nodeRestored
  | trip
  | lockout
  | level
  | stuck
  | inclDisagree
  | logFull
  | depthJump
  | tolerance
deriving DecidableEq, Repr

/-- The sources of events (10, section 10.2). -/
inductive EventSource where
  | link
  | slot (num : Nat)
  | unit (u : ProtectedUnit)
  | sru
  | plate (p : PlateId)
  | vtr
  | axisX
  | axisY
deriving DecidableEq, Repr

/-- An entry of the event queue (R186). -/
structure EventEntry where
  kind : EventKind
  source : EventSource
  value : Int
  first : HeadTime
  last : HeadTime
  count : Nat
deriving DecidableEq, Repr

/-- An active LOG READ readout (R188). -/
structure Readout where
  next : Nat
  remaining : Nat
deriving DecidableEq, Repr

/-- What the RPU holds; the event queue is oldest first. -/
structure Rpu where
  statusDeadline : Option HeadTime
  events : List EventEntry
  readout : Option Readout
deriving DecidableEq, Repr

/-- The Report Unit after hardware reset (R187, R191). -/
def resetRpu : Rpu where
  statusDeadline := none
  events := []
  readout := none

/-! ### Umbilical Link Port (09, section 9.1) -/

/-- The link state (R169 to R172). -/
inductive LinkState where
  | hunt
  | online
  | loss
deriving DecidableEq, Repr

/-- The receive assembly: `gathering` holds the characters after the start character, in order (R174). -/
inductive RxAssembly where
  | waitStart
  | gathering (chars : List Byte)
deriving DecidableEq, Repr

/-- The result codes of answers (R177). -/
inductive ResultCode where
  | ok
  | busy
  | badTable
  | badRow
  | badValue
  | invalid
  | locked
  | range
  | nodeTimeout
  | nodeError
deriving DecidableEq, Repr

/-- An answer (R177). -/
structure Answer where
  kind : Byte
  tag : Byte
  result : ResultCode
  payload : List Byte
deriving DecidableEq, Repr

/-- The tags of a transaction (R136). -/
structure TagSet where
  timeout : Bool
  crc : Bool
  addrMismatch : Bool
  length : Bool
  nodeFault : Bool
deriving DecidableEq, Repr

/-- A telemetry record (R142). -/
structure TelemetryRecord where
  slot : Nat
  role : Role
  time : HeadTime
  tags : TagSet
  payload : Option (List Byte)
deriving DecidableEq, Repr

/-- The uplink state (R179). -/
inductive UplinkState where
  | silent
  | sync
  | idle
  | sending
deriving DecidableEq, Repr

/-- A frame in transmission: its content, fixed at its choice, and the rate code it is sent at (R179). -/
structure TxFrame where
  kind : Byte
  tag : Byte
  payload : List Byte
  rate : Fin 4
deriving DecidableEq, Repr

/-- The latches of the link summary (09, section 9.1). -/
structure LinkSummary where
  frameDiscarded : Bool
  answerOverflow : Bool
  controlClamped : Bool
  pollOverrun : Bool
deriving DecidableEq, Repr

/-- What the ULP holds. `rate` is the locked rate, and in HUNT the candidate. -/
structure Ulp where
  link : LinkState
  rate : Fin 4
  lockRun : Nat
  dwellDeadline : Option HeadTime
  linkDeadline : Option HeadTime
  relockDeadline : Option HeadTime
  rx : RxAssembly
  discards : Nat
  answers : List Answer
  telemetry : List TelemetryRecord
  feedHold : Option Nat
  statusPending : Bool
  uplink : UplinkState
  tx : Option TxFrame
  summary : LinkSummary
deriving DecidableEq, Repr

/-- Every latch of the link summary clear. -/
def clearSummary : LinkSummary := ⟨false, false, false, false⟩

/-- The port after hardware reset; the first dwell starts at the reset (R182, R169). -/
def resetUlp : Ulp where
  link := .hunt
  rate := 0
  lockRun := 0
  dwellDeadline := some 250
  linkDeadline := none
  relockDeadline := none
  rx := .waitStart
  discards := 0
  answers := []
  telemetry := []
  feedHold := none
  statusPending := false
  uplink := .silent
  tx := none
  summary := clearSummary

end Sys2Proof.Machine
end

