-- ==== Sys2Proof/Machine/Flags.lean ====
section
/-! DEFINITION. Every code and every byte of flags the spec gives: states, modes, events, results, tags, latches. -/

namespace Sys2Proof.Machine

/-- The code of a VTR state (R1). -/
def vtrCode : VtrState → Nat
  | .noPanel => 0
  | .advancing => 1
  | .aboveFace => 2
  | .noDepth => 3

/-- The code of a governor state (R48). -/
def governorCode : GovernorState → Nat
  | .off => 0
  | .run => 1
  | .stopping => 2
  | .trip _ => 3
  | .lockout => 4
  | .nofb => 5

/-- The code of a pump state (R93). -/
def pumpCode : PumpState → Nat
  | .off => 0
  | .prime => 1
  | .run => 2
  | .trip _ => 3
  | .lockout => 4

/-- The code of the substate of TRIP (R76). -/
def phaseCode : TripPhase → Nat
  | .timing _ => 1
  | .waiting => 2

/-- The substate code of a governor, 0 outside TRIP (R76). -/
def governorPhaseCode : GovernorState → Nat
  | .trip p => phaseCode p
  | .off => 0
  | .run => 0
  | .stopping => 0
  | .lockout => 0
  | .nofb => 0

/-- The substate code of the pump, 0 outside TRIP (R76). -/
def pumpPhaseCode : PumpState → Nat
  | .trip p => phaseCode p
  | .off => 0
  | .prime => 0
  | .run => 0
  | .lockout => 0

/-- The code of a plate state (R117). -/
def plateCode : PlateState → Nat
  | .hold => 0
  | .extend => 1
  | .retract => 2
  | .stuck => 3
  | .nofb => 4

/-- The code of an effective mode (R117). -/
def modeCode : EffectiveMode → Nat
  | .retract => 0
  | .auto => 1
  | .manual => 2
  | .frozen => 3

/-- The code of a link state (09, section 9.1, note 1). -/
def linkCode : LinkState → Nat
  | .hunt => 0
  | .online => 1
  | .loss => 2

/-- The code of a role (8.6.2). -/
def roleCode : Role → Nat
  | .inclA => 1
  | .inclB => 2
  | .drumL => 3
  | .drumR => 4
  | .slurry => 5
  | .flap => 6
  | .aux => 7

/-- The code of an event kind (10, section 10.2). -/
def eventKindCode : EventKind → Nat
  | .linkLoss => 1
  | .linkRestored => 2
  | .frameErrors => 3
  | .nodeLost => 4
  | .nodeRestored => 5
  | .trip => 6
  | .lockout => 7
  | .level => 8
  | .stuck => 9
  | .inclDisagree => 10
  | .logFull => 11
  | .depthJump => 12
  | .tolerance => 13

/-- The number of a plate, 0 for P1. -/
def plateIndex : PlateId → Nat
  | .p1 => 0
  | .p2 => 1
  | .p3 => 2
  | .p4 => 3

/-- The code of an event source (10, section 10.2). -/
def eventSourceCode : EventSource → Nat
  | .link => 0
  | .slot n => n
  | .unit (.drum .left) => 17
  | .unit (.drum .right) => 18
  | .unit .pump => 19
  | .sru => 20
  | .plate p => 21 + plateIndex p
  | .vtr => 25
  | .axisX => 26
  | .axisY => 27

/-- The code of a result (R177). -/
def resultCode : ResultCode → Nat
  | .ok => 0
  | .busy => 1
  | .badTable => 2
  | .badRow => 3
  | .badValue => 4
  | .invalid => 5
  | .locked => 6
  | .range => 7
  | .nodeTimeout => 8
  | .nodeError => 9

/-- No tag: a good response (R136). -/
def noTags : TagSet := ⟨false, false, false, false, false⟩

/-- The tag of a transaction ended by its deadline (R136). -/
def timeoutTags : TagSet := ⟨true, false, false, false, false⟩

/-- The single code of a set of tags: the lowest code it contains (R136); 0 for no tag. -/
def tagCode (t : TagSet) : Nat :=
  if t.timeout then 1
  else if t.crc then 2
  else if t.addrMismatch then 3
  else if t.length then 4
  else if t.nodeFault then 5
  else 0

/-- The tags byte of a TELEMETRY frame (09, section 9.7, note 1). -/
def tagsByte (t : TagSet) : Nat :=
  boolNat t.timeout + 2 * boolNat t.crc + 4 * boolNat t.addrMismatch + 8 * boolNat t.length + 16 * boolNat t.nodeFault

/-- The flags byte of a station record (R189). -/
def stationFlagsByte (f : StationFlags) : Nat :=
  boolNat f.start + 2 * boolNat f.held + 4 * boolNat f.single + 8 * boolNat f.disagree + 16 * boolNat f.saturated
    + 32 * boolNat f.long

/-- The link summary byte of STATUS (R185). -/
def summaryByte (l : LinkSummary) : Nat :=
  boolNat l.frameDiscarded + 2 * boolNat l.answerOverflow + 4 * boolNat l.controlClamped + 8 * boolNat l.pollOverrun

/-- The cause code of a pump trip (R78). -/
inductive PumpCause where
  | primeFail
  | dryRun
deriving DecidableEq, Repr

/-- The code of a pump trip's cause (R78). -/
def pumpCauseCode : PumpCause → Nat
  | .primeFail => 1
  | .dryRun => 2

end Sys2Proof.Machine
end

