-- ==== Sys2Proof/Machine/State.lean ====
section
/-! DEFINITION. The state of the HC4, the reasons a step can stop, and the state after hardware reset. -/

namespace Sys2Proof.Machine

/-- The faults of the machine. There is none: the spec gives no command a fault that stops the part (trips, LOCKOUT,
STUCK, LOST nodes and discarded frames are states, events and latches), and every command runs in every state. Safe. -/
inductive Fault
deriving DecidableEq, Repr

/-- The refusals of the machine. -/
inductive Refusal where
  /-- Raised by an arm of `exec` whose command has no meaning yet; no arm raises it now. Safe. -/
  | notModelled (mnemonic : String)
deriving DecidableEq, Repr

/-- The whole state: head time, the blocks, the setpoint both governors share, and the model's own two fields
(`freeSeq`, the argument of the free values of `Config`; `pending`, the commands that wait, first in, first out). -/
structure State where
  headTime : HeadTime
  vtr : Vtr
  spl : Spl
  governorL : Governor
  governorR : Governor
  nSet : Nat
  sru : Sru
  pps : Pps
  sbm : Sbm
  tst : Tst
  ulp : Ulp
  rpu : Rpu
  freeSeq : Nat
  pending : List Instr
deriving DecidableEq, Repr

/-- The machine right after hardware reset (R27, R46, R74, R91, R115, R131, R149, R167, R182, R187, R191). -/
def State.reset : State where
  headTime := 0
  vtr := resetVtr
  spl := resetSpl
  governorL := resetGovernor
  governorR := resetGovernor
  nSet := 0
  sru := resetSru
  pps := resetPps
  sbm := resetSbm
  tst := resetTst
  ulp := resetUlp
  rpu := resetRpu
  freeSeq := 0
  pending := []

end Sys2Proof.Machine
end

