-- ==== Sys2Proof/Machine/Ops.lean ====
section
/-! DEFINITION. The operations shared by the blocks: the updates of State, posting an event, setting a latch, answering a
request, and the readings that cross blocks (node states, effective mode). -/

namespace Sys2Proof.Machine

/-! ### Updates of State, one per block -/

/-- The state with its head time replaced. -/
def State.setHeadTime (s : State) (t : HeadTime) : State := { s with headTime := t }

/-- The state with the tracker replaced. -/
def State.setVtr (s : State) (v : Vtr) : State := { s with vtr := v }

/-- The state with the planner replaced. -/
def State.setSpl (s : State) (p : Spl) : State := { s with spl := p }

/-- The state with the base speed setpoint replaced. -/
def State.setNSet (s : State) (n : Nat) : State := { s with nSet := n }

/-- The governor of a drum. -/
def State.governor (s : State) : Drum → Governor
  | .left => s.governorL
  | .right => s.governorR

/-- The state with the governor of a drum replaced. -/
def State.setGovernor (s : State) (d : Drum) (g : Governor) : State :=
  match d with
  | .left => { s with governorL := g }
  | .right => { s with governorR := g }

/-- The state with the Slurry Return Unit replaced. -/
def State.setSru (s : State) (u : Sru) : State := { s with sru := u }

/-- The state with the positioner replaced. -/
def State.setPps (s : State) (p : Pps) : State := { s with pps := p }

/-- The state with the bus master replaced. -/
def State.setSbm (s : State) (b : Sbm) : State := { s with sbm := b }

/-- The state with the Table Store replaced. -/
def State.setTst (s : State) (t : Tst) : State := { s with tst := t }

/-- The state with the link port replaced. -/
def State.setUlp (s : State) (u : Ulp) : State := { s with ulp := u }

/-- The state with the Report Unit replaced. -/
def State.setRpu (s : State) (r : Rpu) : State := { s with rpu := r }

/-- The state with the next argument of the free values. -/
def State.nextFree (s : State) : State := { s with freeSeq := s.freeSeq + 1 }

/-- The state with its queue replaced. -/
def State.setPending (s : State) (q : List Instr) : State := { s with pending := q }

/-! ### Events (R186) -/

/-- A post taken into the event queue: it updates the pending entry of its kind and source in place, or appends a new
entry (R186). -/
def postEntry (now : HeadTime) (kind : EventKind) (source : EventSource) (value : Int) :
    List EventEntry → List EventEntry
  | [] => [{ kind, source, value, first := now, last := now, count := 1 }]
  | e :: es =>
    if e.kind = kind ∧ e.source = source then
      { e with value := value, last := now, count := min 255 (e.count + 1) } :: es
    else e :: postEntry now kind source value es

/-- A block posts an event (R186). -/
def post (kind : EventKind) (source : EventSource) (value : Int) (s : State) : State :=
  s.setRpu { s.rpu with events := postEntry s.headTime kind source value s.rpu.events }

/-! ### Latches of the link summary (09, section 9.1) -/

/-- Sets CONTROL_CLAMPED when a field was limited or refused (R176). -/
def latchClamped (clamped : Bool) (s : State) : State :=
  if clamped then s.setUlp { s.ulp with summary := { s.ulp.summary with controlClamped := true } } else s

/-- Sets POLL_OVERRUN when a slot was served late (R144). -/
def latchOverrun (late : Bool) (s : State) : State :=
  if late then s.setUlp { s.ulp with summary := { s.ulp.summary with pollOverrun := true } } else s

/-- Sets ANSWER_OVERFLOW (R177). -/
def latchOverflow (s : State) : State :=
  s.setUlp { s.ulp with summary := { s.ulp.summary with answerOverflow := true } }

/-! ### Answers (R177) -/

/-- An answer appended at the end of the answer queue (R177). -/
def pushAnswer (kind tag : Byte) (result : ResultCode) (payload : List Byte) (s : State) : State :=
  s.setUlp { s.ulp with answers := s.ulp.answers ++ [{ kind, tag, result, payload }] }

/-- The occupied places of the answer queue: the answers waiting, and the place held for an accepted NODE ACCESS
(R145, R177). -/
def occupiedPlaces (s : State) : Nat := s.ulp.answers.length + boolNat s.sbm.access.isSome

/-- The places of the answer queue (R177). -/
def answerPlaces : Nat := 8

/-! ### Readings across blocks -/

/-- Whether the Umbilical Link Port is ONLINE. -/
def online (s : State) : Bool := decide (s.ulp.link = .online)

/-- The counted rows of the active Poll Table. -/
def countedRows (t : PollTable) : List PollRow := t.rows.take t.params.slotCount

/-- The node state of a role: that of the counted slot that carries it, or none where no counted slot does
(07, section 7.1, note 3). -/
def roleNode (role : Role) (s : State) : Option NodeState :=
  ((countedRows s.tst.active.poll).zip s.sbm.slots).find? (fun x => decide (x.1.role = role)) |>.map (fun x => x.2.node)

/-- Whether the node of a role is ALIVE; an absent role is not (07, section 7.1, note 3). -/
def roleAlive (role : Role) (s : State) : Bool := decide (roleNode role s = some .alive)

/-- The role of a drum's node. -/
def drumRole : Drum → Role
  | .left => .drumL
  | .right => .drumR

/-- The effective mode: FROZEN unless the link is ONLINE (06, section 6.1, note 1). -/
def effectiveMode (s : State) : EffectiveMode :=
  if online s then
    match s.pps.mode with
    | .retract => .retract
    | .auto => .auto
    | .manual => .manual
  else .frozen

end Sys2Proof.Machine
end

