-- ==== Sys2Proof/Machine/Protection.lean ====
section
/-! DEFINITION. The protection that the drums and the pump share: the trip history, taking a trip, the end of an
off-time, CLEAR (04). -/

namespace Sys2Proof.Machine

/-- The fields that parameterise the protection of one unit (04, section 4.1). -/
structure ProtectionParams where
  offTime : Nat
  tripLimit : Nat
  tripWindow : Nat
  policy : Policy
deriving DecidableEq, Repr

/-- The protection fields of the drums (04, section 4.1). -/
def drumProtection (t : DrumTable) : ProtectionParams :=
  ⟨t.params.offTime, t.params.tripLimit, t.params.tripWindow, t.params.policy⟩

/-- The protection fields of the pump (04, section 4.1). -/
def pumpProtection (t : SlurryTable) : ProtectionParams :=
  ⟨t.pump.offTime, t.pump.tripLimit, t.pump.tripWindow, t.pump.policy⟩

/-- The newest `n` entries of a history that is oldest first. -/
def newest (n : Nat) (h : List HeadTime) : List HeadTime := h.drop (h.length - n)

/-- The trip history after a trip: entries older than the window removed, the current head time appended, then the
oldest removed until it holds at most the limit (R79). -/
def historyAfterTrip (now : HeadTime) (t : ProtectionParams) (h : List HeadTime) : List HeadTime :=
  newest t.tripLimit (h.filter (fun e => decide (interval e now ≤ t.tripWindow * 1000)) ++ [now])

/-- The protection of a unit after a trip: history, latch and restart permit (R79, R80). -/
def protectionAfterTrip (now : HeadTime) (t : ProtectionParams) (permit : Bool) (p : Protection) : Protection :=
  { history := historyAfterTrip now t p.history, latch := true, permit }

/-- Whether a unit whose history has taken a trip enters LOCKOUT (R81). -/
def locksOut (t : ProtectionParams) (p : Protection) : Bool := decide (t.tripLimit ≤ p.history.length)

/-- The TRIP phase a trip starts: TIMING, with the deadline one off time ahead (R81). -/
def tripPhase (now : HeadTime) (t : ProtectionParams) : TripPhase := .timing (after now t.offTime)

/-- The protection of a unit named by CLEAR: latch cleared, history emptied (R87). -/
def protectionAfterClear (p : Protection) : Protection := { p with history := [], latch := false }

/-- What the end of an off-time does to a unit (R83, R84). -/
inductive ExpiryOutcome where
  | restart
  | waiting
  | off
deriving DecidableEq, Repr

/-- The outcome of an off-time expiry: by policy, permit, latch, link and node (R83, R84). -/
def expiryOutcome (t : ProtectionParams) (p : Protection) (linkOnline nodeAlive : Bool) : ExpiryOutcome :=
  match t.policy with
  | .auto => if p.permit && linkOnline && nodeAlive then .restart else .off
  | .hold => if p.latch && p.permit then .waiting else .off

/-- The event a trip posts (R81). -/
def tripEvent (locked : Bool) : EventKind := if locked then .lockout else .trip

end Sys2Proof.Machine
end

