-- ==== Sys2Proof/Machine/Slurry.lean ====
section
/-! DEFINITION. The Slurry Return Unit: the pump, the concentration, the solids account, the load level and factor, and
feed hold (05). -/

namespace Sys2Proof.Machine

/-! ### The pump -/

/-- The pump duty in PRIME and RUN: the lesser of the setpoint and the pump max duty (R94). -/
def pumpDuty (t : SlurryTable) (u : Sru) : Nat := min u.setpoint t.pump.maxDuty

/-- Whether the pump is in PRIME or RUN. -/
def pumpDriven (u : Sru) : Bool := decide (u.pump = .prime ∨ u.pump = .run)

/-- The duty formed again in PRIME and RUN (R94, R95, R114). -/
def reformDuty (t : SlurryTable) (u : Sru) : Sru := if pumpDriven u then { u with duty := pumpDuty t u } else u

/-- Entry into PRIME (R97). -/
def enterPrime (now : HeadTime) (t : SlurryTable) (u : Sru) : Sru :=
  { u with
    pump := .prime
    duty := pumpDuty t u
    primeDeadline := some (after now t.pump.primeTime)
    dryDeadline := none }

/-- Entry of the pump into OFF (R98). -/
def enterPumpOff (u : Sru) : Sru := { u with pump := .off, duty := 0, primeDeadline := none, dryDeadline := none }

/-- The pump setpoint of a CONTROL frame taken, limited to 1,000; the duty follows in PRIME and RUN (R95). -/
def setpointTaken (t : SlurryTable) (v : Nat) (u : Sru) : Sru := reformDuty t { u with setpoint := min 1000 v }

/-- The supply density of a CONTROL frame taken, limited to 1,000 to 1,400 (R104). -/
def densityTaken (v : Nat) (u : Sru) : Sru := { u with supplyDensity := max 1000 (min 1400 v) }

/-- The pump enable of a CONTROL frame taken; `en` is the field after its check (R96, R98, R85). -/
def pumpEnableTaken (now : HeadTime) (t : SlurryTable) (linkOnline en : Bool) (u : Sru) : Sru :=
  let v :=
    if en then
      if !u.lastEnable && decide (u.pump = .off) && linkOnline then enterPrime now t u else u
    else
      match u.pump with
      | .prime => enterPumpOff u
      | .run => enterPumpOff u
      | .trip (.timing _) => { u with prot := { u.prot with permit := false } }
      | .trip .waiting => u
      | .off => u
      | .lockout => u
  { v with lastEnable := en }

/-- The setpoint, the density and the enable of a CONTROL frame, in this order (R176, R95, R104, R96). -/
def takePumpFields (setpoint density : Nat) (enable : Byte) (s : State) : State :=
  let t := s.tst.active.slurry
  let u := pumpEnableTaken s.headTime t (online s) (enable == 1)
    (densityTaken density (setpointTaken t setpoint s.sru))
  latchClamped (decide (1000 < setpoint ∨ density < 1000 ∨ 1400 < density ∨ 1 < enable.toNat)) (s.setSru u)

/-- A pump trip: history, latch and permit, the stop, then TRIP or LOCKOUT with its post (R78 to R81). -/
def tripPump (cause : PumpCause) (s : State) : State :=
  let t := pumpProtection s.tst.active.slurry
  let p := protectionAfterTrip s.headTime t true s.sru.prot
  let locked := locksOut t p
  post (tripEvent locked) (.unit .pump) (pumpCauseCode cause)
    (s.setSru
      { enterPumpOff s.sru with pump := if locked then .lockout else .trip (tripPhase s.headTime t), prot := p })

/-- The notice that the SLURRY node is LOST or its role absent: the dry timer is cancelled (R103). -/
def slurryLost (s : State) : State := s.setSru { s.sru with dryDeadline := none }

/-- CLEAR of the pump (R87). -/
def clearPump (s : State) : State :=
  let u := { s.sru with prot := protectionAfterClear s.sru.prot }
  match u.pump with
  | .trip .waiting => s.setSru (enterPumpOff u)
  | .lockout => s.setSru (enterPumpOff u)
  | .trip (.timing _) => s.setSru u
  | .off => s.setSru u
  | .prime => s.setSru u
  | .run => s.setSru u

/-- HEAD RESET of the unit: the pump stops unless in LOCKOUT, the control inputs return to their reset values, and a
hold in force is refreshed at once (R116, R92). -/
def headResetSru (now : HeadTime) (u : Sru) : Sru :=
  let v := if u.pump = .lockout then u else enterPumpOff u
  { v with
    setpoint := 0
    lastEnable := true
    prevSample := none
    refreshDeadline := if u.held then some now else none
    prot := { u.prot with permit := false } }

/-! ### The load factor (R110) -/

/-- The factor of a load level. -/
def levelFactor (l : SlurryLevels) : Nat → Nat
  | 0 => l.f0
  | 1 => l.f1
  | 2 => l.f2
  | _ => l.f3

/-- The load factor f, formed each time it is read (R110). -/
def loadFactor (s : State) : Nat :=
  let l := s.tst.active.slurry.levels
  let f := levelFactor l s.sru.level
  if s.sru.pump = .run ∧ roleAlive .slurry s = true then f else min f l.noReturnFactor

/-! ### The account, the level and feed hold -/

/-- The rising threshold that raises the level to 1, 2 or 3 (R109). -/
def upThreshold (l : SlurryLevels) : Nat → Nat
  | 1 => l.up1
  | 2 => l.up2
  | _ => l.up3

/-- The falling threshold that lowers the level from 1, 2 or 3 (R109). -/
def downThreshold (l : SlurryLevels) : Nat → Nat
  | 1 => l.dn1
  | 2 => l.dn2
  | _ => l.dn3

/-- The rising pass: while the level is below 3 and the account reaches the next rising threshold, it rises (R109).
`fuel` bounds the rises; three suffice. -/
def risingPass (l : SlurryLevels) (account : Nat) : Nat → Nat → Nat
  | 0, level => level
  | fuel + 1, level =>
    if level < 3 ∧ upThreshold l (level + 1) ≤ account then risingPass l account fuel (level + 1) else level

/-- The falling pass: while the level is above 0 and the account is below its falling threshold, it falls (R109). -/
def fallingPass (l : SlurryLevels) (account : Nat) : Nat → Nat
  | 0 => 0
  | level + 1 => if account < downThreshold l (level + 1) then fallingPass l account level else level + 1

/-- The load level after the two passes (R109). -/
def levelAfter (l : SlurryLevels) (account level : Nat) : Nat := fallingPass l account (risingPass l account 3 level)

/-- The level stage: LEVEL is posted once when the level changes (R109). -/
def levelStage (s : State) : State :=
  let level := levelAfter s.tst.active.slurry.levels s.sru.account s.sru.level
  let t := s.setSru { s.sru with level := level }
  if level = s.sru.level then t else post .level .sru level t

/-- Makes a FEED HOLD frame pending: it replaces one not yet sent (R181). -/
def makeFeedHold (holdTime : Nat) (s : State) : State := s.setUlp { s.ulp with feedHold := some holdTime }

/-- A hold made or renewed: its frame pending, and the refresh half a hold time ahead (R111, R112). -/
def holdFeed (s : State) : State :=
  let h := s.tst.active.slurry.levels.holdTime
  makeFeedHold h (s.setSru { s.sru with held := true, refreshDeadline := some (after s.headTime (h / 2)) })

/-- The release of a hold: a frame with hold time 0 pending (R113). -/
def releaseFeed (s : State) : State :=
  makeFeedHold 0 (s.setSru { s.sru with held := false, refreshDeadline := none })

/-- The feed-hold test (R111, R113). -/
def feedHoldTest (s : State) : State :=
  let h := s.tst.active.slurry.levels.holdLevel
  if s.sru.held then
    if s.sru.level < h then releaseFeed s else s
  else if h ≤ s.sru.level then holdFeed s
  else s

/-- An account update by one term, limited to 0 to A_max, then the level stage and the feed-hold test
(R108, R109, R111, R113). -/
def accountUpdate (cut returned : Nat) (s : State) : State :=
  let a := min (s.sru.account + cut - returned) s.tst.active.slurry.ground.accountMax
  feedHoldTest (levelStage (s.setSru { s.sru with account := a }))

/-- The cut term of a face advance, with its residue (R107). -/
def cutTerm (advance : Nat) (s : State) : State :=
  let g := s.tst.active.slurry.ground
  let n := advance * g.panelLength * g.panelWidth + s.sru.residueC
  accountUpdate (n / 1000) 0 (s.setSru { s.sru with residueC := n % 1000 })

/-! ### The SLURRY sample (R100) -/

/-- The values of a SLURRY sample, as received (07, section 7.2). -/
structure SlurrySample where
  flow : Nat
  density : Nat
  suction : Int
deriving DecidableEq, Repr

/-- The concentration of solids in the return, per-mille (R105). -/
def concentration (density supply solids : Nat) : Nat :=
  (clamp 0 1000 ((1000 * ((density : Int) - supply)).tdiv ((solids : Int) - supply))).toNat

/-- The dry test of a sample taken in RUN (R102). -/
def dryTest (now : HeadTime) (t : SlurryPump) (alive : Bool) (flow : Nat) (suction : Int) (u : Sru) : Sru :=
  if flow < t.qMin ∨ suction < t.suctionMin then
    if alive && u.dryDeadline.isNone then { u with dryDeadline := some (after now t.dryTime) } else u
  else { u with dryDeadline := none }

/-- The pump stage of a sample: the prime test in PRIME, and the dry test in RUN (R101, R102). -/
def pumpStage (now : HeadTime) (t : SlurryPump) (alive : Bool) (flow : Nat) (suction : Int) (u : Sru) : Sru :=
  match u.pump with
  | .prime =>
    if t.qMin ≤ flow then dryTest now t alive flow suction { u with pump := .run, primeDeadline := none } else u
  | .run => dryTest now t alive flow suction u
  | .off => u
  | .trip _ => u
  | .lockout => u

/-- A good SLURRY sample taken: pump stage, concentration, returned term, account update, level stage and feed-hold
test (R100 to R113). -/
def slurrySample (x : SlurrySample) (s : State) : State :=
  let t := s.tst.active.slurry
  let alive := roleAlive .slurry s
  let flow := min 2000 x.flow
  let u := pumpStage s.headTime t.pump alive flow (clamp (-100) 1000 x.suction) s.sru
  let c := concentration x.density u.supplyDensity t.ground.solidsDensity
  let n := flow * elapsed u.prevSample s.headTime * c + u.residueR
  let counted := decide (u.pump = .run) && alive
  let v := { u with prevSample := some s.headTime, residueR := if counted then n % 10000 else u.residueR }
  accountUpdate 0 (if counted then n / 10000 else 0) (s.setSru v)

/-- The effects of a Slurry Table activation: the account limited to the new A_max, the duty formed again (R114). -/
def slurryActivated (s : State) : State :=
  let t := s.tst.active.slurry
  s.setSru (reformDuty t { s.sru with account := min s.sru.account t.ground.accountMax })

/-- The refresh deadline is reached while HELD (R112). -/
def refreshExpiry (s : State) : State :=
  if s.sru.held && expired s.sru.refreshDeadline s.headTime then holdFeed s else s

/-- The prime deadline is reached in PRIME (R101). -/
def primeExpiry (s : State) : State :=
  if decide (s.sru.pump = .prime) && expired s.sru.primeDeadline s.headTime then tripPump .primeFail s else s

/-- The dry deadline is reached in RUN (R102). -/
def dryExpiry (s : State) : State :=
  if decide (s.sru.pump = .run) && expired s.sru.dryDeadline s.headTime then tripPump .dryRun s else s

/-- The off-time of the pump ends (R83, R84). -/
def pumpOffTimeExpiry (s : State) : State :=
  match s.sru.pump with
  | .trip (.timing deadline) =>
    if reached deadline s.headTime then
      match expiryOutcome (pumpProtection s.tst.active.slurry) s.sru.prot (online s) (roleAlive .slurry s) with
      | .restart => s.setSru (enterPrime s.headTime s.tst.active.slurry s.sru)
      | .waiting => s.setSru { s.sru with pump := .trip .waiting }
      | .off => s.setSru (enterPumpOff s.sru)
    else s
  | .trip .waiting => s
  | .off => s
  | .prime => s
  | .run => s
  | .lockout => s

end Sys2Proof.Machine
end

