-- ==== Sys2Proof/Machine/Governors.lean ====
section
/-! DEFINITION. The Drum Speed Governors: CONTROL fields, the governor update in its six stages, trips, notices (03, 04). -/

namespace Sys2Proof.Machine

/-! ### States and entries -/

/-- Whether a direction change is pending (03, section 3.1, note 1). -/
def changePending (g : Governor) : Bool := decide (g.requested ≠ g.running)

/-- Entry into RUN (R53). -/
def enterRun (g : Governor) : Governor :=
  { g with state := .run, speed := 0, residue := 0, integrator := 0, prevUpdate := none }

/-- Entry into OFF, which carries out a pending change (R66). -/
def enterOff (g : Governor) : Governor :=
  { g with
    state := .off
    speed := 0
    residue := 0
    integrator := 0
    duty := 0
    running := g.requested
    prevUpdate := none }

/-- Entry into NOFB (R70). -/
def enterNofb (g : Governor) : Governor :=
  { g with state := .nofb, speed := 0, residue := 0, integrator := 0, duty := 0, prevUpdate := none }

/-! ### CONTROL fields -/

/-- The direction a field names: 0 INWARD, 1 OUTWARD (R51). -/
def directionOf (v : Nat) : Option Direction :=
  match v with
  | 0 => some .inward
  | 1 => some .outward
  | _ => none

/-- The direction of a CONTROL frame taken: in OFF the running direction follows at once (R51). -/
def directionTaken (v : Byte) (g : Governor) : Governor :=
  match directionOf v.toNat with
  | none => g
  | some d => if g.state = .off then { g with requested := d, running := d } else { g with requested := d }

/-- The enable of a CONTROL frame taken; `en` is the field after its check (R52, R54, R85). -/
def enableTaken (linkOnline nodeAlive en : Bool) (g : Governor) : Governor :=
  let h :=
    if en then
      if !g.lastEnable && decide (g.state = .off) && linkOnline && nodeAlive then enterRun g else g
    else
      match g.state with
      | .run => { g with state := .stopping }
      | .trip (.timing _) => { g with prot := { g.prot with permit := false } }
      | .trip .waiting => g
      | .off => g
      | .stopping => g
      | .lockout => g
      | .nofb => g
  { h with lastEnable := en }

/-- The base speed of a CONTROL frame taken, limited to 400 (R50). -/
def takeNSet (v : Nat) (s : State) : State := latchClamped (decide (400 < v)) (s.setNSet (min 400 v))

/-- The direction and the enable of a drum in a CONTROL frame, in this order (R51, R52). -/
def takeDrumFields (d : Drum) (direction enable : Byte) (s : State) : State :=
  let g := enableTaken (online s) (roleAlive (drumRole d) s) (enable == 1) (directionTaken direction (s.governor d))
  latchClamped (decide (1 < direction.toNat ∨ 1 < enable.toNat)) (s.setGovernor d g)

/-! ### The governor update (R55) -/

/-- The values of a drum sample, as received (07, section 7.2). -/
structure DrumSample where
  speed : Nat
  direction : Byte
  pressure : Nat
deriving DecidableEq, Repr

/-- The measured speed: the sample's, limited to 400, when it is sensed in the running direction, else 0 (R55, R137). -/
def measured (x : DrumSample) (running : Direction) : Nat :=
  if directionOf x.direction.toNat = some running then min 400 x.speed else 0

/-- The motor pressure a governor takes from a sample (R55). -/
def takenPressure (x : DrumSample) : Nat := min 4000 x.pressure

/-- The split target of a drum, shifted under N_max and floored at 0 (R60, R61). -/
def splitTarget (base nMax : Nat) (deltaN : Int) (d : Drum) : Nat :=
  let hR := deltaN.tdiv 2
  let hL := deltaN - hR
  let tL := (base : Int) + hL
  let tR := (base : Int) - hR
  let excess := max 0 (max tL tR - nMax)
  match d with
  | .left => (tL - excess).toNat
  | .right => (tR - excess).toNat

/-- The composed target G of a drum in RUN with no change pending (R59 to R62). -/
def composedTarget (nSet nMax : Nat) (deltaN : Int) (f : Nat) (d : Drum) : Nat :=
  let base := min nSet nMax
  if base = 0 then 0 else splitTarget base nMax deltaN d * f / 1000

/-- The rate of the ramp (R63). -/
def rampRate (t : DrumParams) (running pending rising : Bool) : Nat :=
  if running then if rising then t.rampUp else if pending then t.stopRate else t.rampDown else t.stopRate

/-- Stage 4: C moved toward the target by the step of the rate, with its residue (R63, R64). -/
def ramp (t : DrumParams) (target dt : Nat) (g : Governor) : Governor :=
  if g.speed = target then { g with residue := 0 }
  else
    let rising := decide (g.speed < target)
    let n := rampRate t (decide (g.state = .run)) (changePending g) rising * dt + g.residue
    let step := n / 1000
    if rising then
      if target ≤ g.speed + step then { g with speed := target, residue := 0 }
      else { g with speed := g.speed + step, residue := n % 1000 }
    else
      if g.speed ≤ target + step then { g with speed := target, residue := 0 }
      else { g with speed := g.speed - step, residue := n % 1000 }

/-- The feed-forward duty from a point on (R67). -/
def curveFrom (c : Nat) : CurvePoint → List CurvePoint → Int
  | p, [] => p.duty
  | p, next :: rest =>
    if c ≤ p.speed then p.duty
    else if c < next.speed then
      p.duty + roundDiv (((next.duty : Int) - p.duty) * ((c : Int) - p.speed)) (next.speed - p.speed)
    else curveFrom c next rest

/-- The counted points of a drum's curve (R67). -/
def countedCurve (t : DrumTable) : Drum → List CurvePoint
  | .left => t.curveL.take t.params.nL
  | .right => t.curveR.take t.params.nR

/-- The feed-forward duty FF(C) (R67). -/
def feedForward (t : DrumTable) (d : Drum) (c : Nat) : Int :=
  match countedCurve t d with
  | [] => 0
  | p :: rest => curveFrom c p rest

/-- The trim integrator after an update: held while the valve is saturated in the sense of the error (R68). -/
def integrate (t : DrumParams) (duty : Nat) (e i : Int) : Int :=
  if (duty = 1000 ∧ 0 < e) ∨ (duty = 0 ∧ e < 0) then i
  else clamp (-(t.trimLimit * 256)) (t.trimLimit * 256) (i + t.ki * e)

/-- Stage 6: integrator and duty (R67 to R69). -/
def dutyStage (t : DrumTable) (d : Drum) (g : Governor) : Governor :=
  let i := integrate t.params g.duty ((g.speed : Int) - g.nMeas) g.integrator
  { g with integrator := i, duty := (clamp 0 1000 (feedForward t d g.speed + i.tdiv 256)).toNat }

/-- Stage 5, and stage 6 where the update goes on to it: at C = 0 a pending change is carried out in RUN, and a
STOPPING governor enters OFF (R65). -/
def directionAndDuty (t : DrumTable) (d : Drum) (g : Governor) : Governor :=
  if g.speed = 0 ∧ g.state = .stopping then enterOff g
  else if g.speed = 0 ∧ g.state = .run ∧ changePending g then
    dutyStage t d { g with running := g.requested, integrator := 0 }
  else dutyStage t d g

/-- Stages 2 to 6 of an update in RUN or STOPPING; `composed` is the target of section 3.4 (R57 to R69). -/
def updateStages (now : HeadTime) (t : DrumTable) (d : Drum) (composed : Nat) (g : Governor) : Governor :=
  let target := if g.state = .run ∧ changePending g = false then composed else 0
  directionAndDuty t d (ramp t.params target (elapsed g.prevUpdate now) { g with prevUpdate := some now })

/-- A drum trip: history, latch and permit, the stop, then TRIP or LOCKOUT with its post (R77, R79 to R81). -/
def tripDrum (d : Drum) (pressure : Nat) (s : State) : State :=
  let t := drumProtection s.tst.active.drum
  let g := s.governor d
  let p := protectionAfterTrip s.headTime t (decide (g.state = .run)) g.prot
  let locked := locksOut t p
  post (tripEvent locked) (.unit (.drum d)) pressure
    (s.setGovernor d
      { g with
        state := if locked then .lockout else .trip (tripPhase s.headTime t)
        speed := 0
        duty := 0
        prot := p })

/-- The target composed at an update, from the values as they stand (R58 to R62). -/
def currentTarget (d : Drum) (s : State) : Nat :=
  composedTarget s.nSet s.tst.active.drum.params.nMax s.spl.deltaN (loadFactor s) d

/-- A good drum sample taken: N_meas is stored in every state, and in RUN and STOPPING the update is made (R55, R56). -/
def drumSample (d : Drum) (x : DrumSample) (s : State) : State :=
  let g := { s.governor d with nMeas := measured x (s.governor d).running }
  let stored := s.setGovernor d g
  if g.state = .run ∨ g.state = .stopping then
    if s.tst.active.drum.params.pTrip < takenPressure x then tripDrum d (takenPressure x) stored
    else s.setGovernor d (updateStages s.headTime s.tst.active.drum d (currentTarget d s) g)
  else stored

/-! ### Notices, CLEAR, the end of an off-time, HEAD RESET -/

/-- A governor told that its node is LOST or its role absent (R70). -/
def governorLost (g : Governor) : Governor :=
  match g.state with
  | .run => enterNofb g
  | .stopping => enterNofb g
  | .trip _ => enterNofb g
  | .off => g
  | .lockout => g
  | .nofb => g

/-- A governor told that its node is ALIVE (R71). -/
def governorAlive (g : Governor) : Governor := if g.state = .nofb then enterOff g else g

/-- A governor told that the link entered LOSS or HUNT (R72, R85). -/
def governorLinkNotice (g : Governor) : Governor :=
  match g.state with
  | .run => { g with state := .stopping }
  | .trip (.timing _) => { g with prot := { g.prot with permit := false } }
  | .trip .waiting => g
  | .off => g
  | .stopping => g
  | .lockout => g
  | .nofb => g

/-- A governor named by CLEAR (R87). -/
def governorCleared (g : Governor) : Governor :=
  let h := { g with prot := protectionAfterClear g.prot }
  match h.state with
  | .trip .waiting => enterOff h
  | .lockout => enterOff h
  | .trip (.timing _) => h
  | .off => h
  | .run => h
  | .stopping => h
  | .nofb => h

/-- A governor after HEAD RESET: OFF unless in LOCKOUT, a pending change dropped first (R75, R92). -/
def governorHeadReset (g : Governor) : Governor :=
  let h := if g.state = .lockout then g else enterOff { g with requested := g.running }
  { h with lastEnable := true, prot := { g.prot with permit := false } }

/-- A governor after a Drum Table activation: history emptied and latch cleared (R89). -/
def governorActivated (g : Governor) : Governor := { g with prot := protectionAfterClear g.prot }

/-- A function of the governor applied to one drum. -/
def onGovernor (f : Governor → Governor) (d : Drum) (s : State) : State := s.setGovernor d (f (s.governor d))

/-- A function of the governor applied to both drums. -/
def onGovernors (f : Governor → Governor) (s : State) : State := onGovernor f .right (onGovernor f .left s)

/-- The off-time of a drum ends (R83, R84). -/
def drumOffTimeExpiry (d : Drum) (s : State) : State :=
  let g := s.governor d
  match g.state with
  | .trip (.timing deadline) =>
    if reached deadline s.headTime then
      match expiryOutcome (drumProtection s.tst.active.drum) g.prot (online s) (roleAlive (drumRole d) s) with
      | .restart => s.setGovernor d (enterRun g)
      | .waiting => s.setGovernor d { g with state := .trip .waiting }
      | .off => s.setGovernor d (enterOff g)
    else s
  | .trip .waiting => s
  | .off => s
  | .run => s
  | .stopping => s
  | .lockout => s
  | .nofb => s

end Sys2Proof.Machine
end

