-- ==== Sys2Proof/Machine/Voting.lean ====
section
/-! DEFINITION. Means, votes and the live face estimate of the Verticality Tracker (01, sections 1.5 and 1.7). -/

namespace Sys2Proof.Machine

/-- The three axes of an inclinometer, with their event codes (R16). -/
inductive Axis where
  | x
  | y
  | twist
deriving DecidableEq, Repr

/-- The code of an axis in INCL_DISAGREE (R16). -/
def axisCode : Axis → Nat
  | .x => 1
  | .y => 2
  | .twist => 3

/-- The sum of an accumulator on an axis. -/
def accSum (a : Accumulator) : Axis → Int
  | .x => a.sumX
  | .y => a.sumY
  | .twist => a.sumTwist

/-- The mean of a sensor on an axis; a count of 0 gives none (R14). -/
def mean (a : Accumulator) (axis : Axis) : Option Int :=
  if a.count = 0 then none else some (roundDiv (accSum a axis) a.count)

/-- The agreement limit of an axis (R15). -/
def agreementLimit (m : MountingParams) : Axis → Nat
  | .x => m.agreementXY
  | .y => m.agreementXY
  | .twist => m.agreementTwist

/-- The voted inclination of a record on an axis. -/
def recordMean (r : StationRecord) : Axis → Int
  | .x => r.mX
  | .y => r.mY
  | .twist => r.mT

/-- The voted inclination of the newest record on an axis; 0 with an empty log (R15, R22). -/
def newestMean (log : List StationRecord) (axis : Axis) : Int :=
  match log.getLast? with
  | none => 0
  | some r => recordMean r axis

/-- Whether both sensors have a mean and these differ by more than the limit: the disagreement row of R15. -/
def disagrees (m : MountingParams) (v : Vtr) (axis : Axis) : Bool :=
  match mean v.accA axis, mean v.accB axis with
  | some a, some b => decide (agreementLimit m axis < (a - b).natAbs)
  | _, _ => false

/-- The voted inclination of one axis, formed from the open accumulators by the table of R15. -/
def vote (m : MountingParams) (v : Vtr) (axis : Axis) : Int :=
  match mean v.accA axis, mean v.accB axis with
  | some a, some b =>
    if (a - b).natAbs ≤ agreementLimit m axis then roundDiv (a + b) 2
    else
      match m.primary with
      | .a => a
      | .b => b
  | some a, none => a
  | none, some b => b
  | none, none => newestMean v.log axis

/-- The integrated sum after a segment that ends at `depth` with inclination `m`, from the newest record: the first
segment after station 0 takes `m` at both its ends (R19, R23). -/
def segmentSum (sum0 m0 : Int) (index0 depth0 depth : Nat) (m : Int) : Int :=
  if index0 = 0 then sum0 + 2 * m * ((depth : Int) - depth0)
  else sum0 + (m0 + m) * ((depth : Int) - depth0)

/-- The offset of an integrated sum, in 0.1 mm (R20). -/
def offsetOf (sum : Int) : Int := roundDiv sum 200000

/-- The live offset at the face on X, or on Y; 0 with an empty log (R23). -/
def faceOffset (m : MountingParams) (v : Vtr) (onY : Bool) : Int :=
  match v.log.getLast? with
  | none => 0
  | some r =>
    if onY then offsetOf (segmentSum r.sY r.mY r.index r.depth v.dFace (vote m v .y))
    else offsetOf (segmentSum r.sX r.mX r.index r.depth v.dFace (vote m v .x))

/-- The open mean of an axis: the vote on the open accumulators, 0 with an empty log (R22). -/
def openMean (m : MountingParams) (v : Vtr) (axis : Axis) : Int :=
  match v.log with
  | [] => 0
  | _ :: _ => vote m v axis

end Sys2Proof.Machine
end

