-- ==== Sys2Proof/Machine/Planner.lean ====
section
/-! DEFINITION. The Steering Planner: the plan line, the bands, the AUTO computation, the evaluation and the tolerance
test (02). -/

namespace Sys2Proof.Machine

/-- A plan target T. -/
structure PlanTarget where
  x : Int
  y : Int
  twist : Int
deriving DecidableEq, Repr

/-- The targets of a plan row. -/
def rowTarget (r : PlanRow) : PlanTarget := ⟨r.x, r.y, r.twist⟩

/-- One component interpolated between two rows, the quotient rounded once (R34). -/
def interpolate (v0 v1 : Int) (d0 d1 d : Nat) : Int :=
  v0 + roundDiv ((v1 - v0) * ((d : Int) - d0)) (d1 - d0)

/-- The plan target at a depth from a row on: above or at the row its targets, between it and the next interpolated,
below the last row the last row's targets (R34, R35). -/
def planFrom (d : Nat) : PlanRow → List PlanRow → PlanTarget
  | r, [] => rowTarget r
  | r, next :: rest =>
    if d ≤ r.depth then rowTarget r
    else if d < next.depth then
      ⟨interpolate r.x next.x r.depth next.depth d, interpolate r.y next.y r.depth next.depth d,
        interpolate r.twist next.twist r.depth next.depth d⟩
    else planFrom d next rest

/-- The plan target T at a depth, over the counted rows; 0 with a count of 0 (R34, R35). -/
def planTarget (t : PlanTable) (d : Nat) : PlanTarget :=
  match t.rows.take t.count with
  | [] => ⟨0, 0, 0⟩
  | r :: rest => planFrom d r rest

/-- The band output of a section for the magnitude of an error: the output of the counted row with the largest edge
that is at most it, and 0 when there is none (R38). -/
def bandOutput (counted : List Band) (magnitude : Nat) : Nat :=
  (counted.foldl (fun best r => if r.edge ≤ magnitude ∧ best.edge ≤ r.edge then r else best) ⟨0, 0⟩).output

/-- The drum differential of an X error: the band output with the sign of the error (R39). -/
def differential (t : SteeringTable) (ex : Int) : Int :=
  let out : Int := bandOutput (t.bandsX.take t.params.nX) ex.natAbs
  if 0 < ex then out else if ex < 0 then -out else 0

/-- The face pair extension: on P1 and P2 for a positive error, on P3 and P4 for a negative one (R40). -/
def facePart (t : SteeringTable) (ey : Int) : Quad Nat :=
  let out := bandOutput (t.bandsY.take t.params.nY) ey.natAbs
  if 0 < ey then ⟨out, out, 0, 0⟩ else if ey < 0 then ⟨0, 0, out, out⟩ else .all 0

/-- The diagonal pair extension: on P2 and P3 for a positive error, on P1 and P4 for a negative one (R41). -/
def diagonalPart (t : SteeringTable) (w : Int) : Quad Nat :=
  let out := bandOutput (t.bandsT.take t.params.nT) w.natAbs
  if 0 < w then ⟨0, out, out, 0⟩ else if w < 0 then ⟨out, 0, 0, out⟩ else .all 0

/-- The target of each plate: its Y part plus its twist part, limited to 1,000 (R42). -/
def plateTargets (t : SteeringTable) (ey w : Int) : Quad Nat :=
  (facePart t ey).mapPlates (fun p y => min 1000 (y + (diagonalPart t w).get p))

/-- The predicted offset on an axis: the face offset carried down by the open inclination over the lookahead (R36). -/
def predicted (face m : Int) (lookahead : Nat) : Int := face + roundDiv (m * lookahead) 100000

/-- The errors of the AUTO computation (R36, R37). -/
def steeringErrors (t : Tables) (v : Vtr) : SteeringErrors :=
  let m := t.mounting.params
  let look := t.steering.params.lookahead
  let target := planTarget t.plan v.dFace
  { ex := predicted (faceOffset m v false) (openMean m v .x) look - target.x
    ey := predicted (faceOffset m v true) (openMean m v .y) look - target.y
    w := openMean m v .twist - target.twist }

/-- The planner after an evaluation: its outputs and last errors by the case of R32. -/
def evaluated (t : Tables) (v : Vtr) (mode : EffectiveMode) (p : Spl) : Spl :=
  match mode, v.state with
  | .auto, .advancing =>
    let e := steeringErrors t v
    { p with deltaN := differential t.steering e.ex, targets := plateTargets t.steering e.ey e.w, lastErrors := some e }
  | .manual, _ => { p with deltaN := p.manualDelta, targets := .all 0, lastErrors := none }
  | _, _ => { p with deltaN := 0, targets := .all 0, lastErrors := none }

/-- An evaluation of the planner (R30 to R32); it hands no target change. -/
def evaluate (s : State) : State := s.setSpl (evaluated s.tst.active s.vtr (effectiveMode s) s.spl)

/-- The tolerance test of a station-close evaluation, for X and then for Y (R44). -/
def toleranceTest (s : State) : State :=
  let m := s.tst.active.mounting.params
  let target := planTarget s.tst.active.plan s.vtr.dFace
  let ex := faceOffset m s.vtr false - target.x
  let ey := faceOffset m s.vtr true - target.y
  let p := s.tst.active.steering.params
  let s := if p.toleranceX < ex.natAbs then post .tolerance .axisX ex s else s
  if p.toleranceY < ey.natAbs then post .tolerance .axisY ey s else s

/-- The manual differential of a CONTROL frame taken and clamped to ±100 (R33). -/
def takeManualDelta (v : Int) (s : State) : State :=
  let c := clamp (-100) 100 v
  latchClamped (decide (c ≠ v)) (s.setSpl { s.spl with manualDelta := c })

end Sys2Proof.Machine
end

