-- ==== Sys2Proof/Machine/Positioner.lean ====
section
/-! DEFINITION. The Plate Positioner: decisions, bars, stroke timers, notices and the target change of the planner (06). -/

namespace Sys2Proof.Machine

/-- The other motion. -/
def opposite : Motion → Motion
  | .extend => .retract
  | .retract => .extend

/-- The state of a plate in a motion. -/
def motionState : Motion → PlateState
  | .extend => .extend
  | .retract => .retract

/-- The motion of a plate whose valve is on. -/
def plateMotion (p : Plate) : Option Motion :=
  match p.state with
  | .extend => some .extend
  | .retract => some .retract
  | .hold => none
  | .stuck => none
  | .nofb => none

/-- The bar of a plate that leaves a motion: the opposite motion for the dwell, in place of a bar still running. A dwell
of 0 sets no bar; a bar still running stays, but not on the motion just left, which is not barred (R121, log 17). -/
def barAfter (now : HeadTime) (dwell : Nat) (left : Motion) (running : Option Bar) : Option Bar :=
  if dwell = 0 then running.filter (fun b => b.motion ≠ left)
  else some { motion := opposite left, deadline := after now dwell }

/-- Turns the valve of a plate off and takes it to a state: the stroke timer is cancelled and the bar set. A plate whose
valve is off changes its state only (R117, R121). -/
def turnOff (now : HeadTime) (dwell : Nat) (dest : PlateState) (p : Plate) : Plate :=
  match plateMotion p with
  | none => { p with state := dest }
  | some m =>
    { p with
      state := dest
      strokeDeadline := none
      bar := barAfter now dwell m p.bar }

/-- Turns the valve of a plate on and starts its stroke timer (R120, R124). -/
def startMotion (now : HeadTime) (stroke : Nat) (m : Motion) (p : Plate) : Plate :=
  { p with state := motionState m, strokeDeadline := some (after now stroke) }

/-- Whether a motion is held off by a running reversal dwell (R121). -/
def barred (m : Motion) (p : Plate) : Bool :=
  match p.bar with
  | none => false
  | some b => decide (b.motion = m)

/-- The wanted motion of a position against a target widened by the deadband (R120). -/
def wanted (db position target : Nat) : Option Motion :=
  if position + db < target then some .extend
  else if target + db < position then some .retract
  else none

/-- A decision for one plate in HOLD, EXTEND or RETRACT, by the table of R120; a plate in STUCK or NOFB is left. -/
def decidePlate (now : HeadTime) (t : SteeringParams) (target : Nat) (p : Plate) : Plate :=
  match p.state with
  | .stuck => p
  | .nofb => p
  | .hold =>
    match p.position with
    | none => p
    | some pos =>
      match wanted t.deadband pos target with
      | none => p
      | some m => if barred m p then p else startMotion now t.strokeTimeout m p
  | _ =>
    match p.position with
    | none => turnOff now t.reversalDwell .hold p
    | some pos =>
      match wanted t.deadband pos target with
      | none => turnOff now t.reversalDwell .hold p
      | some m =>
        if plateMotion p = some m then p
        else if t.reversalDwell = 0 then startMotion now t.strokeTimeout m (turnOff now 0 .hold p)
        else turnOff now t.reversalDwell .hold p

/-- The target of a plate: none while FROZEN (R119). -/
def plateTarget (s : State) (id : PlateId) : Option Nat :=
  match effectiveMode s with
  | .auto => some (s.spl.targets.get id)
  | .manual => some (s.pps.manualTargets.get id)
  | .retract => some 0
  | .frozen => none

/-- A decision for one plate as the state stands; none is made while FROZEN (R120, R127). -/
def decideFor (s : State) (id : PlateId) (p : Plate) : Plate :=
  match plateTarget s id with
  | none => p
  | some t => decidePlate s.headTime s.tst.active.steering.params t p

/-- The state with the plates replaced. -/
def setPlates (s : State) (q : Quad Plate) : State := s.setPps { s.pps with plates := q }

/-- A decision pass over the four plates (R122). -/
def decisionPass (s : State) : State := setPlates s (s.pps.plates.mapPlates (decideFor s))

/-- The planner's target change handed to the positioner: a pass when the targets changed and the effective mode is
AUTO (R29, R122). `before` are the targets held before. -/
def handTargets (before : Quad Nat) (s : State) : State :=
  if s.spl.targets ≠ before ∧ effectiveMode s = .auto then decisionPass s else s

/-- An evaluation of the planner that hands its target change at once (R29 to R32). -/
def evaluateAndHand (s : State) : State := handTargets s.spl.targets (evaluate s)

/-- The steering mode of a CONTROL frame taken (R118). -/
def takeMode (v : Byte) (s : State) : State :=
  match v.toNat with
  | 0 => s.setPps { s.pps with mode := .retract }
  | 1 => s.setPps { s.pps with mode := .auto }
  | 2 => s.setPps { s.pps with mode := .manual }
  | _ => latchClamped true s

/-- The manual targets of a CONTROL frame taken, each limited to 1,000 (R118). -/
def takeManualTargets (v : Quad Nat) (s : State) : State :=
  latchClamped (decide (1000 < v.p1 ∨ 1000 < v.p2 ∨ 1000 < v.p3 ∨ 1000 < v.p4))
    (s.setPps { s.pps with manualTargets := v.mapPlates (fun _ t => min 1000 t) })

/-- The positions of a FLAP sample stored, each limited to 1,000 (R123). -/
def storePositions (v : Quad Nat) (q : Quad Plate) : Quad Plate :=
  q.mapPlates (fun id p => { p with position := some (min 1000 (v.get id)) })

/-- The plates after a good FLAP sample: positions stored, then a decision for each (R123). -/
def platesAfterSample (s : State) (v : Quad Nat) (q : Quad Plate) : Quad Plate :=
  (storePositions v q).mapPlates (decideFor s)

/-- The plates after the FLAP node became ALIVE: those in NOFB leave it (R129). -/
def platesAfterAlive (s : State) (q : Quad Plate) : Quad Plate :=
  q.mapPlates (fun id p =>
    if p.state = .nofb then
      if p.stuckLatch then { p with state := .stuck } else decideFor s id { p with state := .hold }
    else p)

/-- The plates after the FLAP node became LOST, or its role absent: every plate enters NOFB (R128). -/
def platesAfterLost (s : State) (q : Quad Plate) : Quad Plate :=
  q.mapPlates (fun _ p => turnOff s.headTime s.tst.active.steering.params.reversalDwell .nofb p)

/-- The moving plates stopped, the others left (R127, R132). -/
def stopMoving (s : State) (q : Quad Plate) : Quad Plate :=
  q.mapPlates (fun _ p =>
    if (plateMotion p).isSome then turnOff s.headTime s.tst.active.steering.params.reversalDwell .hold p else p)

/-- The notice that the FLAP node is LOST or its role absent (R128). -/
def flapLost (s : State) : State := setPlates s (platesAfterLost s s.pps.plates)

/-- The notice that the link entered LOSS, or HUNT; on HUNT the stored mode becomes RETRACT (R127). -/
def linkNoticePlates (hunt : Bool) (s : State) : State :=
  s.setPps { s.pps with mode := if hunt then .retract else s.pps.mode, plates := stopMoving s s.pps.plates }

/-- HEAD RESET of the positioner (R132). -/
def headResetPlates (s : State) : State :=
  s.setPps { mode := .retract, manualTargets := .all 0, plates := stopMoving s s.pps.plates }

/-- CLEAR of the positioner: every STUCK latch clears, and each STUCK plate enters HOLD with a decision (R126). -/
def clearPlates (s : State) : State :=
  setPlates s (s.pps.plates.mapPlates (fun id p =>
    if p.state = .stuck then decideFor s id { p with state := .hold, stuckLatch := false }
    else { p with stuckLatch := false }))

/-- Whether a position lies in the band of a target (R125). -/
def inBand (db : Nat) (position : Option Nat) (target : Option Nat) : Bool :=
  match position, target with
  | some p, some t => decide (wanted db p t = none)
  | _, _ => false

/-- The stroke deadline of a plate is reached while it moves: HOLD inside its band, else STUCK with its post (R125). -/
def strokeExpiry (id : PlateId) (s : State) : State :=
  let p := s.pps.plates.get id
  let t := s.tst.active.steering.params
  if (plateMotion p).isSome && expired p.strokeDeadline s.headTime then
    if inBand t.deadband p.position (plateTarget s id) then
      setPlates s (s.pps.plates.set id (turnOff s.headTime t.reversalDwell .hold p))
    else
      post .stuck (.plate id) (p.position.getD 0)
        (setPlates s
          (s.pps.plates.set id { turnOff s.headTime t.reversalDwell .stuck p with stuckLatch := true }))
  else s

/-- The reversal dwell of a plate ends: the bar clears, and a plate in HOLD gets a decision when not FROZEN (R121). -/
def dwellExpiry (id : PlateId) (s : State) : State :=
  let p := s.pps.plates.get id
  match p.bar with
  | none => s
  | some b =>
    if reached b.deadline s.headTime then
      let q := { p with bar := none }
      setPlates s (s.pps.plates.set id (if q.state = .hold then decideFor s id q else q))
    else s

end Sys2Proof.Machine
end

