-- ==== Sys2Proof/Machine/Tracker.lean ====
section
/-! DEFINITION. The Verticality Tracker: depth, face advance, station close, inclinometer samples, panel start (01). -/

namespace Sys2Proof.Machine

/-- The greatest depth (R2). -/
def maxDepth : Nat := 250000

/-- The greatest number of records in the Drift Log (R21). -/
def logCapacity : Nat := 1024

/-- Whether a depth lies at or below the face less the backoff, as a signed comparison (R1). -/
def atFace (m : MountingParams) (dFace d : Nat) : Bool := decide ((dFace : Int) - m.backoff ≤ d)

/-- The VTR state a known depth gives in an open panel (R1, R5). -/
def depthState (m : MountingParams) (dFace d : Nat) : VtrState :=
  if atFace m dFace d then .advancing else .aboveFace

/-- Whether a value is within the max depth step of a reference (R4). -/
def withinStep (m : MountingParams) (v ref : Nat) : Bool := decide (((v : Int) - ref).natAbs ≤ m.maxDepthStep)

/-- Whether a depth value is accepted: in range, and by the no-depth, the step or the re-anchor test (R2, R4). -/
def depthAccepted (m : MountingParams) (t : Vtr) (v : Nat) : Bool :=
  decide (v ≤ maxDepth) &&
    (match t.depth with
      | none => true
      | some d => withinStep m v d ||
        (match t.candidate with
          | none => false
          | some c => decide (c ≤ maxDepth) && withinStep m v c))

/-- A depth value rejected: it becomes the re-anchor candidate, and DEPTH_JUMP is posted (R3). -/
def rejectDepth (v : Nat) (s : State) : State :=
  post .depthJump .vtr v (s.setVtr { s.vtr with candidate := some v })

/-- The flags of a record closed at depth `d` after the newest record `r` (R18). -/
def closeFlags (m : MountingParams) (v : Vtr) (r : StationRecord) (d : Nat) : StationFlags where
  start := false
  held := decide (v.accA.count = 0 ∧ v.accB.count = 0)
  single := decide ((v.accA.count = 0) ≠ (v.accB.count = 0))
  disagree := disagrees m v .x || disagrees m v .y || disagrees m v .twist
  saturated := v.saturated
  long := decide (r.depth + 2 * m.stationInterval ≤ d)

/-- The record of a station closed at depth `d`, after the newest record `r` (R17 to R19). -/
def closeRecord (m : MountingParams) (v : Vtr) (r : StationRecord) (d : Nat) : StationRecord where
  index := v.log.length
  depth := d
  mX := vote m v .x
  mY := vote m v .y
  mT := vote m v .twist
  sX := segmentSum r.sX r.mX r.index r.depth d (vote m v .x)
  sY := segmentSum r.sY r.mY r.index r.depth d (vote m v .y)
  sampleCount := min 65535 (v.accA.count + v.accB.count)
  flags := closeFlags m v r d

/-- INCL_DISAGREE posted for an axis that fell in the disagreement row (R16). -/
def postDisagree (m : MountingParams) (v : Vtr) (axis : Axis) (s : State) : State :=
  if disagrees m v axis then post .inclDisagree .vtr (axisCode axis) s else s

/-- The open accumulators cleared, with the SATURATED mark (R13). -/
def clearOpen (v : Vtr) : Vtr :=
  { v with accA := emptyAccumulator, accB := emptyAccumulator, saturated := false }

/-- A station close with room in the log: the vote and its posts, the record, the cleared accumulators, then the
station-close evaluation with the tolerance test (R17, R16, R44). -/
def closeStation (r : StationRecord) (d : Nat) (s : State) : State :=
  let m := s.tst.active.mounting.params
  let v := s.vtr
  let posted := postDisagree m v .twist (postDisagree m v .y (postDisagree m v .x s))
  let closed := posted.setVtr { clearOpen v with log := v.log ++ [closeRecord m v r d] }
  evaluate (toleranceTest closed)

/-- A close refused because the log is full: LOG_FULL is posted once in a panel (R21). -/
def refuseClose (d : Nat) (s : State) : State :=
  if s.vtr.logFullArmed then post .logFull .vtr d (s.setVtr { s.vtr with logFullArmed := false }) else s

/-- The close test of a face advance to depth `d` (R8). -/
def closeTest (d : Nat) (s : State) : State :=
  match s.vtr.log.getLast? with
  | none => s
  | some r =>
    if r.depth + s.tst.active.mounting.params.stationInterval ≤ d then
      if s.vtr.log.length < logCapacity then closeStation r d s else refuseClose d s
    else s

/-- A face advance to depth `d`: D_face, the cut term, the close test (R7, R8). -/
def advanceFace (d : Nat) (s : State) : State :=
  closeTest d (cutTerm (d - s.vtr.dFace) (s.setVtr { s.vtr with dFace := d }))

/-- An accepted depth processed (R5). -/
def acceptDepth (d : Nat) (s : State) : State :=
  let known := s.setVtr { s.vtr with depth := some d, candidate := none }
  if s.vtr.state = .noPanel then known
  else
    let st := depthState s.tst.active.mounting.params s.vtr.dFace d
    let placed := known.setVtr { known.vtr with state := st }
    if st = .advancing ∧ s.vtr.dFace < d then advanceFace d placed else placed

/-- The depth of a CONTROL frame taken (R2). -/
def takeDepth (v : Nat) (s : State) : State :=
  if depthAccepted s.tst.active.mounting.params s.vtr v then acceptDepth v s else rejectDepth v s

/-- The notice that the link entered LOSS or HUNT (R6), and what HEAD RESET does to depth and state (R28). -/
def loseDepth (v : Vtr) : Vtr :=
  { v with depth := none, candidate := none, state := if v.state = .noPanel then .noPanel else .noDepth }

/-! ### Inclinometer samples -/

/-- The values of an inclinometer sample, as received (07, section 7.2). -/
structure InclSample where
  x : Int
  y : Int
  twist : Int
deriving DecidableEq, Repr

/-- A sample corrected for the mounting of its sensor (R9). -/
def corrected (o : MountingOffsets) (x : InclSample) : InclSample := ⟨x.x - o.x, x.y - o.y, x.twist - o.twist⟩

/-- A corrected sample clamped (R10). -/
def clamped (x : InclSample) : InclSample :=
  ⟨clamp (-50000) 50000 x.x, clamp (-50000) 50000 x.y, clamp (-1800) 1800 x.twist⟩

/-- A sample added to the accumulator of its sensor (R11). -/
def accumulate (a : Accumulator) (x : InclSample) : Accumulator :=
  ⟨a.sumX + x.x, a.sumY + x.y, a.sumTwist + x.twist, a.count + 1⟩

/-- The greatest count of an accumulator (R11). -/
def maxCount : Nat := 65535

/-- The accumulator of a sensor. -/
def accumulatorOf (v : Vtr) : Sensor → Accumulator
  | .a => v.accA
  | .b => v.accB

/-- The tracker after the accumulation stage of a sample (R9 to R11). -/
def accumulated (m : MountingTable) (sensor : Sensor) (x : InclSample) (v : Vtr) : Vtr :=
  let y := corrected (match sensor with | .a => m.offsetsA | .b => m.offsetsB) x
  let z := clamped y
  if v.state = .advancing ∧ (accumulatorOf v sensor).count < maxCount then
    let acc := accumulate (accumulatorOf v sensor) z
    let sat := v.saturated || decide (z ≠ y)
    match sensor with
    | .a => { v with accA := acc, saturated := sat }
    | .b => { v with accB := acc, saturated := sat }
  else v

/-- A good inclinometer sample taken, then the sample evaluation of the planner (R9 to R12). -/
def inclSample (sensor : Sensor) (x : InclSample) (s : State) : State :=
  evaluateAndHand (s.setVtr (accumulated s.tst.active.mounting sensor x s.vtr))

/-! ### Panel start -/

/-- Whether the fields of a PANEL START lie in their ranges (R24). -/
def panelFieldsOk (d0 : Nat) (ox oy : Int) : Bool :=
  decide (d0 ≤ maxDepth ∧ -10000 ≤ ox ∧ ox ≤ 10000 ∧ -10000 ≤ oy ∧ oy ≤ 10000)

/-- Station 0 of a panel (R25). -/
def startRecord (d0 : Nat) (ox oy : Int) : StationRecord where
  index := 0
  depth := d0
  mX := 0
  mY := 0
  mT := 0
  sX := ox * 200000
  sY := oy * 200000
  sampleCount := 0
  flags := ⟨true, false, false, false, false, false⟩

/-- The tracker after an accepted PANEL START (R25). -/
def panelStarted (m : MountingParams) (d0 : Nat) (ox oy : Int) (v : Vtr) : Vtr :=
  { clearOpen v with
    log := [startRecord d0 ox oy]
    dFace := d0
    generation := v.generation + 1
    logFullArmed := true
    state :=
      match v.depth with
      | none => .noDepth
      | some d => depthState m d0 d }

/-- An accepted PANEL START: the tracker, the end of a readout, then the panel evaluation (R25, R30). -/
def startPanel (d0 : Nat) (ox oy : Int) (s : State) : State :=
  let t := s.setVtr (panelStarted s.tst.active.mounting.params d0 ox oy s.vtr)
  evaluateAndHand (t.setRpu { t.rpu with readout := none })

/-- HEAD RESET of the tracker (R28). -/
def headResetVtr (v : Vtr) : Vtr := clearOpen (loseDepth v)

end Sys2Proof.Machine
end

