-- ==== Sys2Proof/Machine/Bus.lean ====
section
/-! DEFINITION. The Sensor Bus Master: messages, checks and tags, node states, samples, the scheduler, NODE ACCESS (07). -/

namespace Sys2Proof.Machine

/-! ### Messages (07, section 7.2) -/

/-- The kind code of a transaction's request. -/
def requestKind (x : Serving) : Byte :=
  match x with
  | .slot _ _ _ _ _ => 0x01#8
  | .access a =>
    match a.op with
    | .read => 0x02#8
    | .write => 0x03#8

/-- The payload of a transaction's request. -/
def requestPayload (x : Serving) : List Byte :=
  match x with
  | .slot _ _ _ _ _ => []
  | .access a =>
    match a.op with
    | .read => [a.register]
    | .write => a.register :: leBytes 2 a.value.toNat

/-- The characters of a request, as the SBM sends them in REQUEST (R135, section 7.2). -/
def requestChars (tx : Transaction) : List BusChar :=
  let body := requestKind tx.serving :: BitVec.ofNat 8 (requestPayload tx.serving).length :: requestPayload tx.serving
  { marker := true, data := BitVec.ofNat 8 tx.address, stop := true } ::
    (body ++ [crc8 body]).map (fun b => { marker := false, data := b, stop := true })

/-- The length of a good response: a role's SAMPLE length, at most 16 for AUX, 3 for a register (section 7.2). -/
def lengthFits (x : Serving) (len : Nat) : Bool :=
  match x with
  | .slot _ role _ _ _ =>
    match role with
    | .inclA => decide (len = 11)
    | .inclB => decide (len = 11)
    | .drumL => decide (len = 8)
    | .drumR => decide (len = 8)
    | .slurry => decide (len = 9)
    | .flap => decide (len = 9)
    | .aux => decide (len ≤ 16)
  | .access _ => decide (len = 3)

/-- A complete response, taken apart: the address character, the characters after it, kind, length, payload, CRC. -/
structure Response where
  addressChar : BusChar
  later : List BusChar
  kind : Byte
  length : Byte
  payload : List Byte
  crc : Byte
deriving DecidableEq, Repr

/-- The response that characters received in RESPONSE gather: none while it is not complete; characters beyond its CRC
character are not part of it (R135). -/
def gatherResponse : List BusChar → Option Response
  | a :: k :: l :: rest =>
    match (rest.drop l.data.toNat).head? with
    | none => none
    | some c =>
      some
        { addressChar := a
          later := k :: l :: rest.take (l.data.toNat + 1)
          kind := k.data
          length := l.data
          payload := (rest.take l.data.toNat).map (fun x => x.data)
          crc := c.data }
  | _ => none

/-- Whether the echoed register of a register response differs from the requested one (R136). -/
def registerDiffers (x : Serving) (payload : List Byte) : Bool :=
  match x with
  | .slot _ _ _ _ _ => false
  | .access a => decide (payload.head? ≠ some a.register)

/-- Whether a role's SAMPLE carries a node status, its last byte (section 7.2). -/
def carriesStatus (x : Serving) : Bool :=
  match x with
  | .slot _ role _ _ _ => decide (role ≠ .aux)
  | .access _ => false

/-- The tags of a complete response (R136). -/
def responseTags (tx : Transaction) (r : Response) : TagSet :=
  let addr := !r.addressChar.marker || decide (r.addressChar.data.toNat ≠ tx.address)
  let len :=
    decide (r.kind ≠ requestKind tx.serving) || !lengthFits tx.serving r.length.toNat
      || r.later.any (fun c => c.marker) || registerDiffers tx.serving r.payload
  let crc := decide (crc8 (r.kind :: r.length :: r.payload) ≠ r.crc)
      || !r.addressChar.stop || r.later.any (fun c => !c.stop)
  { timeout := false
    crc := crc
    addrMismatch := addr
    length := len
    nodeFault :=
      !addr && !len && !crc && carriesStatus tx.serving && decide (r.payload.getLast? ≠ some 0#8) }

/-! ### Samples (section 7.2, R137) -/

/-- `n` bytes of a payload from position `i`. -/
def field (payload : List Byte) (i n : Nat) : List Byte := (payload.drop i).take n

/-- The values of an inclinometer payload. -/
def inclOf (p : List Byte) : InclSample :=
  ⟨ofLeSigned (field p 0 4), ofLeSigned (field p 4 4), ofLeSigned (field p 8 2)⟩

/-- The values of a drum payload. -/
def drumOf (p : List Byte) : DrumSample := ⟨ofLe (field p 0 2), BitVec.ofNat 8 (ofLe (field p 2 1)), ofLe (field p 3 2)⟩

/-- The values of a slurry payload. -/
def slurryOf (p : List Byte) : SlurrySample := ⟨ofLe (field p 0 2), ofLe (field p 2 2), ofLeSigned (field p 4 2)⟩

/-- The positions of a FLAP payload. -/
def flapOf (p : List Byte) : Quad Nat :=
  ⟨ofLe (field p 0 2), ofLe (field p 2 2), ofLe (field p 4 2), ofLe (field p 6 2)⟩

/-- A good FLAP sample taken (R123). -/
def flapSample (v : Quad Nat) (s : State) : State := setPlates s (platesAfterSample s v s.pps.plates)

/-- A good sample delivered to the consumer of its role (R141). -/
def deliverSample (role : Role) (payload : List Byte) (s : State) : State :=
  match role with
  | .inclA => inclSample .a (inclOf payload) s
  | .inclB => inclSample .b (inclOf payload) s
  | .drumL => drumSample .left (drumOf payload) s
  | .drumR => drumSample .right (drumOf payload) s
  | .slurry => slurrySample (slurryOf payload) s
  | .flap => flapSample (flapOf payload) s
  | .aux => s

/-- Two functions of one item applied in either order, as `first` says which comes first. Where both orders end alike,
the order does not enter. -/
def inEitherOrder {α : Type} [DecidableEq α] (first : Bool) (f g : α → α) (a : α) : α :=
  if g (f a) = f (g a) then g (f a) else if first then g (f a) else f (g a)

/-- A governor in NOFB after the ALIVE notice and the sample of one response: in OFF, a pending change carried out, with
the same last N_meas in both orders. With a change pending the rules leave open which of the two directions the sample
is measured in; `afterChange` says it (R66, R71, log 31). -/
def governorReturned (afterChange : Bool) (x : DrumSample) (g : Governor) : Governor :=
  { governorAlive g with nMeas := measured x (if afterChange then g.requested else g.running) }

/-- A drum sample whose response also made the node ALIVE: a governor in NOFB enters OFF with the sample's N_meas; in
any other state the notice changes nothing (R71, R141). -/
def drumSampleWithNotice (d : Drum) (x : DrumSample) (s : State) : State :=
  if (s.governor d).state = .nofb then
    (onGovernor (governorReturned (Config.nMeasAfterChange s.freeSeq) x) d s).nextFree
  else drumSample d x s

/-- A FLAP sample whose response also made the node ALIVE: the positioner takes the notice and the sample in either
order (R129, R141, log 12). -/
def flapSampleWithNotice (v : Quad Nat) (s : State) : State :=
  (setPlates s
    (inEitherOrder (Config.noticeBeforeSample s.freeSeq) (platesAfterAlive s) (platesAfterSample s v)
      s.pps.plates)).nextFree

/-- A good sample delivered together with the ALIVE notice of its role (R138, R141). -/
def deliverWithNotice (role : Role) (payload : List Byte) (s : State) : State :=
  match role with
  | .drumL => drumSampleWithNotice .left (drumOf payload) s
  | .drumR => drumSampleWithNotice .right (drumOf payload) s
  | .flap => flapSampleWithNotice (flapOf payload) s
  | .inclA => deliverSample .inclA payload s
  | .inclB => deliverSample .inclB payload s
  | .slurry => deliverSample .slurry payload s
  | .aux => s

/-- The notice that the node of a role is LOST or the role absent (R139, R140). -/
def lostNotice (role : Role) (s : State) : State :=
  match role with
  | .drumL => onGovernor governorLost .left s
  | .drumR => onGovernor governorLost .right s
  | .slurry => slurryLost s
  | .flap => flapLost s
  | .inclA => s
  | .inclB => s
  | .aux => s

/-! ### Slots and the scheduler -/

/-- The slot of a number from 1 on. -/
def slotAt (s : State) (num : Nat) : Option Slot := if num = 0 then none else s.sbm.slots[num - 1]?

/-- The state with the slot of a number changed. -/
def onSlot (num : Nat) (f : Slot → Slot) (s : State) : State :=
  s.setSbm { s.sbm with slots := s.sbm.slots.modify (num - 1) f }

/-- The counted slots of a table, each UNKNOWN, with no failure and due now (R147, R150). -/
def freshSlots (now : HeadTime) (t : PollTable) : List Slot :=
  (countedRows t).map (fun _ => { due := now, failures := 0, node := .unknown })

/-- How long a slot has been due: none while its due time is ahead (R143). -/
def overdue (now : HeadTime) (x : Slot) : Option Nat := if reached x.due now then some (interval x.due now) else none

/-- The due slot whose due time is earliest, a tie going to the lowest number; slots are numbered from `num`, and
`best` is the choice among the earlier ones (R143). -/
def earliestDue (now : HeadTime) (num : Nat) (best : Option (Nat × Nat)) : List Slot → Option (Nat × Nat)
  | [] => best
  | x :: rest =>
    match overdue now x, best with
    | none, _ => earliestDue now (num + 1) best rest
    | some d, none => earliestDue now (num + 1) (some (num, d)) rest
    | some d, some (n, e) => earliestDue now (num + 1) (if e < d then some (num, d) else some (n, e)) rest

/-- The number of the slot the arbiter serves next, or none (R143). -/
def nextSlot (s : State) : Option Nat := (earliestDue s.headTime 1 none s.sbm.slots).map (fun x => x.1)

/-- The transaction of an access, with the bus parameters of the active Poll Table (R134, R146). -/
def accessTransaction (t : PollTable) (a : Access) : Transaction :=
  ⟨.access a, a.address, t.params.rate, t.params.turnaround, t.params.responseTimeout⟩

/-- The transaction of a slot, with its row and the bus parameters of the active Poll Table (R134, R148). -/
def slotTransaction (t : PollTable) (num : Nat) (r : PollRow) : Transaction :=
  ⟨.slot num r.role r.relayBad r.noRelay false, r.address, t.params.rate, t.params.turnaround, t.params.responseTimeout⟩

/-- The transaction the arbiter grants the idle bus to: the waiting NODE ACCESS, or the earliest due slot (R143). -/
def granted (s : State) : Option Transaction :=
  let t := s.tst.active.poll
  match s.sbm.access with
  | some a => some (accessTransaction t a)
  | none =>
    match nextSlot s with
    | none => none
    | some num => ((countedRows t)[num - 1]?).map (slotTransaction t num)

/-- The arbiter: in IDLE it grants the bus, and the request is sent (R134, R143). -/
def arbitrate (s : State) : State :=
  match s.sbm.bus, granted s with
  | .idle, some tx => s.setSbm { s.sbm with bus := .request tx }
  | _, _ => s

/-- A slot's due time is reached (R143). -/
def slotDueReached (num : Nat) (s : State) : State :=
  match slotAt s num with
  | none => s
  | some x => if reached x.due s.headTime then arbitrate s else s

/-- The release of the pair (R134). -/
def releasePair (s : State) : State :=
  match s.sbm.bus with
  | .request tx => s.setSbm { s.sbm with bus := .response tx (after s.headTime tx.responseTimeout) }
  | .idle => s
  | .response _ _ => s
  | .quiet _ => s

/-! ### The end of a transaction -/

/-- The next due time of a slot, and whether it was served late (R144). -/
def nextDue (now : HeadTime) (period : Nat) (due : HeadTime) : HeadTime × Bool :=
  let sum := after due period
  if interval now sum < 2147483648 then (sum, false) else (now, true)

/-- The due time set at the end of a slot transaction, with the POLL_OVERRUN latch (R144). -/
def setDue (num : Nat) (s : State) : State :=
  match slotAt s num, (s.tst.active.poll.rows[num - 1]?) with
  | some x, some r =>
    let n := nextDue s.headTime r.period x.due
    latchOverrun n.2 (onSlot num (fun y => { y with due := n.1 }) s)
  | _, _ => s

/-- A slot transaction of the active table ended with a good response: failure count 0, ALIVE, and NODE_RESTORED when
the node was LOST (R138). -/
def slotGood (num address : Nat) (s : State) : State :=
  let t := onSlot num (fun y => { y with failures := 0, node := .alive }) s
  if (slotAt s num).map (fun x => x.node) = some .lost then post .nodeRestored (.slot num) address t else t

/-- A slot transaction of the active table ended with a bad response: the failure counted, and at the lost limit the
node LOST with its post and its notice (R139). -/
def slotBad (num : Nat) (role : Role) (tags : TagSet) (s : State) : State :=
  match slotAt s num with
  | none => s
  | some x =>
    let failures := min 15 (x.failures + 1)
    if s.tst.active.poll.params.lostLimit ≤ failures ∧ x.node ≠ .lost then
      lostNotice role
        (post .nodeLost (.slot num) (tagCode tags)
          (onSlot num (fun y => { y with failures := failures, node := .lost }) s))
    else onSlot num (fun y => { y with failures := failures }) s

/-- Whether a transaction carries no tag (R136). -/
def isGood (tags : TagSet) : Bool := decide (tags = noTags)

/-- A record placed in the telemetry queue: it replaces the pending record of its slot, or joins the end (R180). -/
def placeRecord (r : TelemetryRecord) : List TelemetryRecord → List TelemetryRecord
  | [] => [r]
  | x :: xs => if x.slot = r.slot then r :: xs else x :: placeRecord r xs

/-- The telemetry record of a slot transaction, made and placed as the options and the switch say (R142, R180, R166). -/
def relay (num : Nat) (role : Role) (relayBad noRelay : Bool) (tags : TagSet) (payload : List Byte) (s : State) :
    State :=
  if !noRelay && (isGood tags || relayBad) && s.tst.active.link.telemetry then
    s.setUlp
      { s.ulp with
        telemetry :=
          placeRecord
            { slot := num, role, time := s.headTime, tags,
              payload := if isGood tags || tags.nodeFault then some payload else none }
            s.ulp.telemetry }
  else s

/-- The end of a slot transaction of the active table: node state, due time, then the sample with the notice of a node
that became ALIVE (R138, R139, R141, R144). -/
def endLiveSlot (num address : Nat) (role : Role) (tags : TagSet) (payload : List Byte) (s : State) : State :=
  if isGood tags then
    let wasAlive := decide ((slotAt s num).map (fun x => x.node) = some .alive)
    let t := setDue num (slotGood num address s)
    if wasAlive then deliverSample role payload t else deliverWithNotice role payload t
  else setDue num (slotBad num role tags s)

/-- The end of a slot transaction: of a replaced table, only its good sample is delivered (R147). Its telemetry record
follows (R142). -/
def endSlot (num address : Nat) (role : Role) (relayBad noRelay orphan : Bool) (tags : TagSet) (payload : List Byte)
    (s : State) : State :=
  relay num role relayBad noRelay tags payload
    (if orphan then if isGood tags then deliverSample role payload s else s
     else endLiveSlot num address role tags payload s)

/-- The operation byte of an access (section 9.4). -/
def accessOpCode : AccessOp → Byte
  | .read => 0#8
  | .write => 1#8

/-- The result payload of an access: address, operation, register and value (R146, R177). -/
def accessPayload (a : Access) (value : List Byte) : List Byte :=
  BitVec.ofNat 8 a.address :: accessOpCode a.op :: a.register :: value

/-- The end of an access: its answer takes the held place, and no access is outstanding (R146, R177). -/
def endAccess (a : Access) (tags : TagSet) (payload : List Byte) (s : State) : State :=
  let result : ResultCode := if isGood tags then .ok else if tags.timeout then .nodeTimeout else .nodeError
  let value := if isGood tags then field payload 1 2 else [0#8, 0#8]
  pushAnswer 0x33#8 a.tag result (accessPayload a value) (s.setSbm { s.sbm with access := none })

/-- The end of a transaction with its tags and payload: the bus returns to IDLE, the effects are taken, and the arbiter
may grant again (R134, R143). -/
def endTransaction (tx : Transaction) (tags : TagSet) (payload : List Byte) (s : State) : State :=
  let t := s.setSbm { s.sbm with bus := .idle }
  arbitrate
    (match tx.serving with
      | .slot num role relayBad noRelay orphan => endSlot num tx.address role relayBad noRelay orphan tags payload t
      | .access a => endAccess a tags payload t)

/-- Characters received: in RESPONSE a complete response ends the transaction; elsewhere they are discarded
(R133, R135, R136). -/
def receiveResponse (chars : List BusChar) (s : State) : State :=
  match s.sbm.bus with
  | .response tx _ =>
    match gatherResponse chars with
    | none => s
    | some r => endTransaction tx (responseTags tx r) r.payload s
  | .idle => s
  | .request _ => s
  | .quiet _ => s

/-- The response deadline is reached before the response is complete (R135). -/
def responseExpiry (s : State) : State :=
  match s.sbm.bus with
  | .response tx deadline => if reached deadline s.headTime then endTransaction tx timeoutTags [] s else s
  | .idle => s
  | .request _ => s
  | .quiet _ => s

/-- The quiet deadline is reached (R150). -/
def quietExpiry (s : State) : State :=
  match s.sbm.bus with
  | .quiet deadline =>
    if reached deadline s.headTime then arbitrate (s.setSbm { s.sbm with bus := .idle }) else s
  | .idle => s
  | .request _ => s
  | .response _ _ => s

/-! ### Poll Table activation and HEAD RESET -/

/-- The role-absent notice of a role that no counted slot carries (R140). -/
def absentNotice (role : Role) (s : State) : State :=
  if (countedRows s.tst.active.poll).any (fun r => decide (r.role = role)) then s else lostNotice role s

/-- The role-absent notices of the four roles that have a consumer of their node state (R140). -/
def absentNotices (s : State) : State :=
  absentNotice .flap (absentNotice .slurry (absentNotice .drumR (absentNotice .drumL s)))

/-- A slot transaction in flight marked as one of a replaced table (R147). -/
def orphaned (tx : Transaction) : Transaction :=
  match tx.serving with
  | .slot num role relayBad noRelay _ => { tx with serving := .slot num role relayBad noRelay true }
  | .access _ => tx

/-- The bus at a Poll Table activation: a slot transaction in flight continues, but no longer for a slot (R147). -/
def orphanBus (b : BusState) : BusState :=
  match b with
  | .request tx => .request (orphaned tx)
  | .response tx deadline => .response (orphaned tx) deadline
  | .idle => .idle
  | .quiet deadline => .quiet deadline

/-- The effects of a Poll Table activation: fresh slots, the transaction in flight set apart, the role-absent notices,
and the arbiter (R147, R140, R143). -/
def pollActivated (s : State) : State :=
  arbitrate
    (absentNotices
      (s.setSbm { s.sbm with bus := orphanBus s.sbm.bus, slots := freshSlots s.headTime s.tst.active.poll }))

/-- HEAD RESET of the bus master (R150). -/
def headResetSbm (now : HeadTime) (t : PollTable) : Sbm where
  bus := .quiet (after now t.params.responseTimeout)
  slots := freshSlots now t
  access := none

/-- The operation a byte names (R145). -/
def accessOpOf (v : Byte) : Option AccessOp :=
  match v.toNat with
  | 0 => some .read
  | 1 => some .write
  | _ => none

end Sys2Proof.Machine
end

