-- ==== Sys2Proof/Machine/Operands.lean ====
section
/-! DEFINITION. The operand forms: the fields of every table row with their ranges and widths (08, sections 8.2 and 8.6),
read from and written to bytes, and the cross-row checks of section 8.6. -/

namespace Sys2Proof.Machine

/-- The range and the width in bytes of a table field; a field whose range includes negative values is signed (R155). -/
structure FieldSpec where
  lo : Int
  hi : Int
  bytes : Nat
deriving DecidableEq, Repr

/-- A field read from its bytes (R155). -/
def FieldSpec.read (f : FieldSpec) (bs : List Byte) : Int := if f.lo < 0 then ofLeSigned bs else (ofLe bs : Int)

/-- The fields of a row read from the payload: none unless the bytes are exactly as many as the fields require and
every field lies in its range (R154). -/
def readFields : List FieldSpec → List Byte → Option (List Int)
  | [], [] => some []
  | [], _ :: _ => none
  | f :: fs, bs =>
    if bs.length < f.bytes then none
    else
      let v := f.read (bs.take f.bytes)
      if f.lo ≤ v ∧ v ≤ f.hi then (readFields fs (bs.drop f.bytes)).map (fun vs => v :: vs) else none

/-- The bytes of a row's fields (R155). -/
def writeFields : List FieldSpec → List Int → List Byte
  | f :: fs, v :: vs => leInt f.bytes v ++ writeFields fs vs
  | _, _ => []

/-! ### The fields of each row (8.6.1 to 8.6.7) -/

/-- Row 0 of the Drum Table (8.6.1). -/
def drumParamSpecs : List FieldSpec :=
  [⟨0, 400, 2⟩, ⟨1, 400, 2⟩, ⟨1, 400, 2⟩, ⟨1, 400, 2⟩, ⟨100, 4000, 2⟩, ⟨500, 10000, 2⟩, ⟨1, 8, 1⟩, ⟨10, 600, 2⟩,
    ⟨0, 1, 1⟩, ⟨0, 255, 1⟩, ⟨0, 300, 2⟩, ⟨2, 8, 1⟩, ⟨2, 8, 1⟩]

/-- A feed-forward point (8.6.1). -/
def curveSpecs : List FieldSpec := [⟨0, 400, 2⟩, ⟨0, 1000, 2⟩]

/-- Row 0 of the Poll Table (8.6.2). -/
def pollParamSpecs : List FieldSpec := [⟨0, 2, 1⟩, ⟨1, 20, 1⟩, ⟨0, 200, 1⟩, ⟨1, 15, 1⟩, ⟨0, 16, 1⟩]

/-- A poll slot; the options are bits 0 and 1 (8.6.2). -/
def pollRowSpecs : List FieldSpec := [⟨1, 31, 1⟩, ⟨1, 7, 1⟩, ⟨5, 10000, 2⟩, ⟨0, 3, 1⟩]

/-- Row 0 of the Mounting Table (8.6.3). -/
def mountingParamSpecs : List FieldSpec :=
  [⟨100, 2000, 2⟩, ⟨50, 2000, 2⟩, ⟨10, 2000, 2⟩, ⟨100, 10000, 2⟩, ⟨5, 500, 2⟩, ⟨0, 1, 1⟩]

/-- Mounting offsets (8.6.3). -/
def mountingOffsetSpecs : List FieldSpec := [⟨-20000, 20000, 2⟩, ⟨-20000, 20000, 2⟩, ⟨-1800, 1800, 2⟩]

/-- Row 0 of the Plan Table (8.6.4). -/
def planCountSpecs : List FieldSpec := [⟨0, 32, 1⟩]

/-- A plan point (8.6.4). -/
def planRowSpecs : List FieldSpec := [⟨0, 250000, 4⟩, ⟨-50000, 50000, 4⟩, ⟨-50000, 50000, 4⟩, ⟨-1800, 1800, 2⟩]

/-- Row 0 of the Steering Table (8.6.5). -/
def steeringParamSpecs : List FieldSpec :=
  [⟨0, 5000, 2⟩, ⟨10, 5000, 2⟩, ⟨10, 5000, 2⟩, ⟨0, 8, 1⟩, ⟨0, 8, 1⟩, ⟨0, 8, 1⟩, ⟨5, 100, 1⟩, ⟨1000, 60000, 2⟩,
    ⟨0, 500, 2⟩]

/-- A band of the X section (8.6.5). -/
def bandXSpecs : List FieldSpec := [⟨1, 10000, 2⟩, ⟨0, 100, 2⟩]

/-- A band of the Y section (8.6.5). -/
def bandYSpecs : List FieldSpec := [⟨1, 10000, 2⟩, ⟨0, 1000, 2⟩]

/-- A band of the twist section (8.6.5). -/
def bandTSpecs : List FieldSpec := [⟨1, 3000, 2⟩, ⟨0, 1000, 2⟩]

/-- Row 0 of the Slurry Table (8.6.6). -/
def slurryGroundSpecs : List FieldSpec := [⟨2000, 3000, 2⟩, ⟨1000, 4000, 2⟩, ⟨400, 2000, 2⟩, ⟨100000, 5000000, 4⟩]

/-- Row 1 of the Slurry Table (8.6.6). -/
def slurryLevelSpecs : List FieldSpec :=
  [⟨0, 5000000, 4⟩, ⟨0, 5000000, 4⟩, ⟨0, 5000000, 4⟩, ⟨0, 5000000, 4⟩, ⟨0, 5000000, 4⟩, ⟨0, 5000000, 4⟩,
    ⟨0, 1000, 2⟩, ⟨0, 1000, 2⟩, ⟨0, 1000, 2⟩, ⟨0, 1000, 2⟩, ⟨1, 4, 1⟩, ⟨500, 10000, 2⟩, ⟨0, 1000, 2⟩]

/-- Row 2 of the Slurry Table (8.6.6). -/
def slurryPumpSpecs : List FieldSpec :=
  [⟨0, 1000, 2⟩, ⟨0, 2000, 2⟩, ⟨-100, 1000, 2⟩, ⟨500, 30000, 2⟩, ⟨1000, 60000, 2⟩, ⟨500, 30000, 2⟩, ⟨1, 8, 1⟩,
    ⟨10, 600, 2⟩, ⟨0, 1, 1⟩]

/-- Row 0 of the Link Table (8.6.7). -/
def linkSpecs : List FieldSpec := [⟨100, 5000, 2⟩, ⟨1000, 60000, 2⟩, ⟨100, 10000, 2⟩, ⟨0, 1, 1⟩]

/-! ### Codes of code fields -/

/-- The policy of a code (8.6.1). -/
def policyOf (v : Int) : Policy := if v = 0 then .auto else .hold

/-- The code of a policy. -/
def policyCode : Policy → Int
  | .auto => 0
  | .hold => 1

/-- The sensor of a code (8.6.3). -/
def sensorOf (v : Int) : Sensor := if v = 0 then .a else .b

/-- The code of a sensor. -/
def sensorCode : Sensor → Int
  | .a => 0
  | .b => 1

/-- The role of a code 1 to 7 (8.6.2). -/
def roleOf (v : Int) : Role :=
  if v = 1 then .inclA
  else if v = 2 then .inclB
  else if v = 3 then .drumL
  else if v = 4 then .drumR
  else if v = 5 then .slurry
  else if v = 6 then .flap
  else .aux

/-- The options field of a slot: bit 0 RELAY_BAD, bit 1 NO_RELAY (8.6.2). -/
def optionsCode (r : PollRow) : Int := boolNat r.relayBad + 2 * boolNat r.noRelay

/-! ### Rows as lists of field values, in the order of section 8.6 -/

/-- The fields of row 0 of the Drum Table. -/
def drumParamFields (p : DrumParams) : List Int :=
  [p.nMax, p.rampUp, p.rampDown, p.stopRate, p.pTrip, p.offTime, p.tripLimit, p.tripWindow, policyCode p.policy, p.ki,
    p.trimLimit, p.nL, p.nR]

/-- Row 0 of the Drum Table from its fields; `old` where the fields are not as many. -/
def drumParamsOf (old : DrumParams) : List Int → DrumParams
  | [nMax, up, down, stop, pTrip, off, limit, window, policy, ki, trim, nL, nR] =>
    { nMax := nMax.toNat, rampUp := up.toNat, rampDown := down.toNat, stopRate := stop.toNat, pTrip := pTrip.toNat,
      offTime := off.toNat, tripLimit := limit.toNat, tripWindow := window.toNat, policy := policyOf policy,
      ki := ki.toNat, trimLimit := trim.toNat, nL := nL.toNat, nR := nR.toNat }
  | _ => old

/-- The fields of a feed-forward point. -/
def curveFields (p : CurvePoint) : List Int := [p.speed, p.duty]

/-- A feed-forward point from its fields. -/
def curveOf (old : CurvePoint) : List Int → CurvePoint
  | [n, d] => ⟨n.toNat, d.toNat⟩
  | _ => old

/-- The fields of row 0 of the Poll Table. -/
def pollParamFields (p : PollParams) : List Int :=
  [p.rate, p.responseTimeout, p.turnaround, p.lostLimit, p.slotCount]

/-- Row 0 of the Poll Table from its fields. -/
def pollParamsOf (old : PollParams) : List Int → PollParams
  | [rate, timeout, turn, lost, count] => ⟨rate.toNat, timeout.toNat, turn.toNat, lost.toNat, count.toNat⟩
  | _ => old

/-- The fields of a poll slot. -/
def pollRowFields (r : PollRow) : List Int := [r.address, roleCode r.role, r.period, optionsCode r]

/-- A poll slot from its fields. -/
def pollRowOf (old : PollRow) : List Int → PollRow
  | [address, role, period, options] =>
    { address := address.toNat, role := roleOf role, period := period.toNat, relayBad := options.toNat.testBit 0,
      noRelay := options.toNat.testBit 1 }
  | _ => old

/-- The fields of row 0 of the Mounting Table. -/
def mountingParamFields (p : MountingParams) : List Int :=
  [p.stationInterval, p.backoff, p.maxDepthStep, p.agreementXY, p.agreementTwist, sensorCode p.primary]

/-- Row 0 of the Mounting Table from its fields. -/
def mountingParamsOf (old : MountingParams) : List Int → MountingParams
  | [station, backoff, step, xy, twist, primary] =>
    ⟨station.toNat, backoff.toNat, step.toNat, xy.toNat, twist.toNat, sensorOf primary⟩
  | _ => old

/-- The fields of mounting offsets. -/
def mountingOffsetFields (o : MountingOffsets) : List Int := [o.x, o.y, o.twist]

/-- Mounting offsets from their fields. -/
def mountingOffsetsOf (old : MountingOffsets) : List Int → MountingOffsets
  | [x, y, t] => ⟨x, y, t⟩
  | _ => old

/-- The count of the Plan Table from its field. -/
def planCountOf (old : Nat) : List Int → Nat
  | [n] => n.toNat
  | _ => old

/-- The fields of a plan point. -/
def planRowFields (r : PlanRow) : List Int := [r.depth, r.x, r.y, r.twist]

/-- A plan point from its fields. -/
def planRowOf (old : PlanRow) : List Int → PlanRow
  | [d, x, y, t] => ⟨d.toNat, x, y, t⟩
  | _ => old

/-- The fields of row 0 of the Steering Table. -/
def steeringParamFields (p : SteeringParams) : List Int :=
  [p.lookahead, p.toleranceX, p.toleranceY, p.nX, p.nY, p.nT, p.deadband, p.strokeTimeout, p.reversalDwell]

/-- Row 0 of the Steering Table from its fields. -/
def steeringParamsOf (old : SteeringParams) : List Int → SteeringParams
  | [look, tolX, tolY, nX, nY, nT, db, stroke, dwell] =>
    ⟨look.toNat, tolX.toNat, tolY.toNat, nX.toNat, nY.toNat, nT.toNat, db.toNat, stroke.toNat, dwell.toNat⟩
  | _ => old

/-- The fields of a band. -/
def bandFields (b : Band) : List Int := [b.edge, b.output]

/-- A band from its fields. -/
def bandOf (old : Band) : List Int → Band
  | [e, o] => ⟨e.toNat, o.toNat⟩
  | _ => old

/-- The fields of row 0 of the Slurry Table. -/
def slurryGroundFields (g : SlurryGround) : List Int := [g.solidsDensity, g.panelLength, g.panelWidth, g.accountMax]

/-- Row 0 of the Slurry Table from its fields. -/
def slurryGroundOf (old : SlurryGround) : List Int → SlurryGround
  | [density, length, width, most] => ⟨density.toNat, length.toNat, width.toNat, most.toNat⟩
  | _ => old

/-- The fields of row 1 of the Slurry Table. -/
def slurryLevelFields (l : SlurryLevels) : List Int :=
  [l.up1, l.dn1, l.up2, l.dn2, l.up3, l.dn3, l.f0, l.f1, l.f2, l.f3, l.holdLevel, l.holdTime, l.noReturnFactor]

/-- Row 1 of the Slurry Table from its fields. -/
def slurryLevelsOf (old : SlurryLevels) : List Int → SlurryLevels
  | [up1, dn1, up2, dn2, up3, dn3, f0, f1, f2, f3, level, time, factor] =>
    { up1 := up1.toNat, dn1 := dn1.toNat, up2 := up2.toNat, dn2 := dn2.toNat, up3 := up3.toNat, dn3 := dn3.toNat,
      f0 := f0.toNat, f1 := f1.toNat, f2 := f2.toNat, f3 := f3.toNat, holdLevel := level.toNat,
      holdTime := time.toNat, noReturnFactor := factor.toNat }
  | _ => old

/-- The fields of row 2 of the Slurry Table. -/
def slurryPumpFields (p : SlurryPump) : List Int :=
  [p.maxDuty, p.qMin, p.suctionMin, p.dryTime, p.primeTime, p.offTime, p.tripLimit, p.tripWindow, policyCode p.policy]

/-- Row 2 of the Slurry Table from its fields. -/
def slurryPumpOf (old : SlurryPump) : List Int → SlurryPump
  | [duty, q, suction, dry, prime, off, limit, window, policy] =>
    { maxDuty := duty.toNat, qMin := q.toNat, suctionMin := suction, dryTime := dry.toNat, primeTime := prime.toNat,
      offTime := off.toNat, tripLimit := limit.toNat, tripWindow := window.toNat, policy := policyOf policy }
  | _ => old

/-- The fields of the Link Table's row. -/
def linkFields (l : LinkTable) : List Int := [l.linkTimeout, l.relockTimeout, l.statusPeriod, boolNat l.telemetry]

/-- The Link Table from its fields. -/
def linkTableOf (old : LinkTable) : List Int → LinkTable
  | [link, relock, status, telemetry] => ⟨link.toNat, relock.toNat, status.toNat, decide (telemetry = 1)⟩
  | _ => old

/-! ### Rows of a table -/

/-- The table of an id byte (section 8.1, R152). -/
def tableIdOf (v : Byte) : Option TableId :=
  match v.toNat with
  | 1 => some .drum
  | 2 => some .poll
  | 3 => some .mounting
  | 4 => some .plan
  | 5 => some .steering
  | 6 => some .slurry
  | 7 => some .link
  | _ => none

/-- The fields of a row, or none where the table has no such row (section 8.1, R152). -/
def rowSpecs (t : TableId) (row : Nat) : Option (List FieldSpec) :=
  match t with
  | .drum => if row = 0 then some drumParamSpecs else if row ≤ 16 then some curveSpecs else none
  | .poll => if row = 0 then some pollParamSpecs else if row ≤ 16 then some pollRowSpecs else none
  | .mounting => if row = 0 then some mountingParamSpecs else if row ≤ 2 then some mountingOffsetSpecs else none
  | .plan => if row = 0 then some planCountSpecs else if row ≤ 32 then some planRowSpecs else none
  | .steering =>
    if row = 0 then some steeringParamSpecs
    else if row ≤ 8 then some bandXSpecs
    else if row ≤ 16 then some bandYSpecs
    else if row ≤ 24 then some bandTSpecs
    else none
  | .slurry =>
    if row = 0 then some slurryGroundSpecs
    else if row = 1 then some slurryLevelSpecs
    else if row = 2 then some slurryPumpSpecs
    else none
  | .link => if row = 0 then some linkSpecs else none

/-- The field values of item `i` of a list of rows; none held beyond its end. -/
def fieldsAt {α : Type} (fields : α → List Int) (rows : List α) (i : Nat) : List Int :=
  match rows[i]? with
  | none => []
  | some r => fields r

/-- The field values of a row of one bank (R160). -/
def rowFields (b : Tables) (t : TableId) (row : Nat) : List Int :=
  match t with
  | .drum =>
    if row = 0 then drumParamFields b.drum.params
    else if row ≤ 8 then fieldsAt curveFields b.drum.curveL (row - 1)
    else fieldsAt curveFields b.drum.curveR (row - 9)
  | .poll => if row = 0 then pollParamFields b.poll.params else fieldsAt pollRowFields b.poll.rows (row - 1)
  | .mounting =>
    if row = 0 then mountingParamFields b.mounting.params
    else if row = 1 then mountingOffsetFields b.mounting.offsetsA
    else mountingOffsetFields b.mounting.offsetsB
  | .plan => if row = 0 then [(b.plan.count : Int)] else fieldsAt planRowFields b.plan.rows (row - 1)
  | .steering =>
    if row = 0 then steeringParamFields b.steering.params
    else if row ≤ 8 then fieldsAt bandFields b.steering.bandsX (row - 1)
    else if row ≤ 16 then fieldsAt bandFields b.steering.bandsY (row - 9)
    else fieldsAt bandFields b.steering.bandsT (row - 17)
  | .slurry =>
    if row = 0 then slurryGroundFields b.slurry.ground
    else if row = 1 then slurryLevelFields b.slurry.levels
    else slurryPumpFields b.slurry.pump
  | .link => linkFields b.link

/-- A list of rows with item `i` replaced from field values. -/
def setAt {α : Type} (ofFields : α → List Int → α) (rows : List α) (i : Nat) (vs : List Int) : List α :=
  rows.modify i (fun r => ofFields r vs)

/-- One bank with a row replaced by field values (R154). -/
def setRow (b : Tables) (t : TableId) (row : Nat) (vs : List Int) : Tables :=
  match t with
  | .drum =>
    if row = 0 then { b with drum := { b.drum with params := drumParamsOf b.drum.params vs } }
    else if row ≤ 8 then { b with drum := { b.drum with curveL := setAt curveOf b.drum.curveL (row - 1) vs } }
    else { b with drum := { b.drum with curveR := setAt curveOf b.drum.curveR (row - 9) vs } }
  | .poll =>
    if row = 0 then { b with poll := { b.poll with params := pollParamsOf b.poll.params vs } }
    else { b with poll := { b.poll with rows := setAt pollRowOf b.poll.rows (row - 1) vs } }
  | .mounting =>
    if row = 0 then { b with mounting := { b.mounting with params := mountingParamsOf b.mounting.params vs } }
    else if row = 1 then
      { b with mounting := { b.mounting with offsetsA := mountingOffsetsOf b.mounting.offsetsA vs } }
    else { b with mounting := { b.mounting with offsetsB := mountingOffsetsOf b.mounting.offsetsB vs } }
  | .plan =>
    if row = 0 then { b with plan := { b.plan with count := planCountOf b.plan.count vs } }
    else { b with plan := { b.plan with rows := setAt planRowOf b.plan.rows (row - 1) vs } }
  | .steering =>
    if row = 0 then { b with steering := { b.steering with params := steeringParamsOf b.steering.params vs } }
    else if row ≤ 8 then { b with steering := { b.steering with bandsX := setAt bandOf b.steering.bandsX (row - 1) vs } }
    else if row ≤ 16 then
      { b with steering := { b.steering with bandsY := setAt bandOf b.steering.bandsY (row - 9) vs } }
    else { b with steering := { b.steering with bandsT := setAt bandOf b.steering.bandsT (row - 17) vs } }
  | .slurry =>
    if row = 0 then { b with slurry := { b.slurry with ground := slurryGroundOf b.slurry.ground vs } }
    else if row = 1 then { b with slurry := { b.slurry with levels := slurryLevelsOf b.slurry.levels vs } }
    else { b with slurry := { b.slurry with pump := slurryPumpOf b.slurry.pump vs } }
  | .link => { b with link := linkTableOf b.link vs }

/-- One bank with one table replaced by that table of another (R153, R156). -/
def copyTable (t : TableId) (source b : Tables) : Tables :=
  match t with
  | .drum => { b with drum := source.drum }
  | .poll => { b with poll := source.poll }
  | .mounting => { b with mounting := source.mounting }
  | .plan => { b with plan := source.plan }
  | .steering => { b with steering := source.steering }
  | .slurry => { b with slurry := source.slurry }
  | .link => { b with link := source.link }

/-! ### Cross-row checks (R157, R161 to R165): the lowest row that fails, or none -/

/-- The first row, numbered from `row`, whose relation to the row before it fails. -/
def firstUnordered {α : Type} (ordered : α → α → Bool) (row : Nat) : α → List α → Option Nat
  | _, [] => none
  | a, b :: rest => if ordered a b then firstUnordered ordered (row + 1) b rest else some row

/-- The check of one feed-forward curve whose first row has the number `row` (R161). -/
def curveCheck (row : Nat) : List CurvePoint → Option Nat
  | [] => none
  | p :: rest =>
    if p.speed = 0 then
      firstUnordered (fun a b => decide (a.speed < b.speed ∧ a.duty ≤ b.duty)) (row + 1) p rest
    else some row

/-- The check of one section of bands whose first row has the number `row` (R164). -/
def bandCheck (row : Nat) : List Band → Option Nat
  | [] => none
  | b :: rest => firstUnordered (fun a c => decide (a.edge < c.edge ∧ a.output ≤ c.output)) (row + 1) b rest

/-- Whether a slot clashes with an earlier one: the same address, or the same role other than AUX (R162). -/
def slotsClash (earlier r : PollRow) : Bool :=
  decide (earlier.address = r.address ∨ (r.role ≠ .aux ∧ earlier.role = r.role))

/-- The check of the counted slots, numbered from `row`, against the earlier ones (R162). -/
def pollCheck (row : Nat) (earlier : List PollRow) : List PollRow → Option Nat
  | [] => none
  | r :: rest => if earlier.any (fun e => slotsClash e r) then some row else pollCheck (row + 1) (earlier ++ [r]) rest

/-- The check of the counted plan points (R163). -/
def planCheck : List PlanRow → Option Nat
  | [] => none
  | r :: rest => firstUnordered (fun a b => decide (a.depth < b.depth)) 2 r rest

/-- Whether the thresholds and factors of the Slurry Table hold their checks (R165). -/
def slurryHolds (t : SlurryTable) : Bool :=
  let l := t.levels
  decide (l.up1 < l.up2 ∧ l.up2 < l.up3 ∧ l.up3 ≤ t.ground.accountMax)
    && decide (l.dn1 < l.up1 ∧ l.dn2 < l.up2 ∧ l.dn3 < l.up3)
    && decide (l.dn1 < l.dn2 ∧ l.dn2 < l.dn3)
    && decide (l.f1 ≤ l.f0 ∧ l.f2 ≤ l.f1 ∧ l.f3 ≤ l.f2)
    && decide (l.noReturnFactor ≤ l.f0)

/-- The lowest row of a table's bank that fails a cross-row check, or none (R157, R161 to R165). -/
def failingRow (b : Tables) (t : TableId) : Option Nat :=
  match t with
  | .drum =>
    (curveCheck 1 (b.drum.curveL.take b.drum.params.nL)).or (curveCheck 9 (b.drum.curveR.take b.drum.params.nR))
  | .poll => pollCheck 1 [] (b.poll.rows.take b.poll.params.slotCount)
  | .mounting => none
  | .plan => planCheck (b.plan.rows.take b.plan.count)
  | .steering =>
    ((bandCheck 1 (b.steering.bandsX.take b.steering.params.nX)).or
      (bandCheck 9 (b.steering.bandsY.take b.steering.params.nY))).or
      (bandCheck 17 (b.steering.bandsT.take b.steering.params.nT))
  | .slurry => if slurryHolds b.slurry then none else some 1
  | .link => none

end Sys2Proof.Machine
end

