-- ==== Sys2Proof/Machine/Store.lean ====
section
/-! DEFINITION. The Table Store: OPEN, WRITE, ACTIVATE and READ (08). Each answers one ANSWER (R152). -/

namespace Sys2Proof.Machine

/-- The frame kind codes of the downlink (09, section 9.4). -/
inductive DownlinkKind where
  | control
  | tableOpen
  | tableWrite
  | tableActivate
  | tableRead
  | panelStart
  | logRead
  | clear
  | nodeAccess
  | statusRequest
  | echo
  | headReset
deriving DecidableEq, Repr

/-- The code of a downlink kind (09, section 9.4). -/
def downlinkCode : DownlinkKind → Byte
  | .control => 0x10#8
  | .tableOpen => 0x20#8
  | .tableWrite => 0x21#8
  | .tableActivate => 0x22#8
  | .tableRead => 0x23#8
  | .panelStart => 0x30#8
  | .logRead => 0x31#8
  | .clear => 0x32#8
  | .nodeAccess => 0x33#8
  | .statusRequest => 0x34#8
  | .echo => 0x35#8
  | .headReset => 0x3F#8

/-- An answer to a request of a kind. -/
def answer (kind : DownlinkKind) (tag : Byte) (result : ResultCode) (payload : List Byte) (s : State) : State :=
  pushAnswer (downlinkCode kind) tag result payload s

/-- TABLE OPEN: the load bank becomes a copy of the active bank (R153). -/
def openTable (tag table : Byte) (s : State) : State :=
  match tableIdOf table with
  | none => answer .tableOpen tag .badTable [] s
  | some t =>
    answer .tableOpen tag .ok [table]
      (s.setTst { s.tst with load := copyTable t s.tst.active s.tst.load })

/-- TABLE WRITE: a row written whole into the load bank, or refused whole (R152, R154). -/
def writeTable (tag table row : Byte) (fields : List Byte) (s : State) : State :=
  match tableIdOf table with
  | none => answer .tableWrite tag .badTable [] s
  | some t =>
    match rowSpecs t row.toNat with
    | none => answer .tableWrite tag .badRow [] s
    | some specs =>
      match readFields specs fields with
      | none => answer .tableWrite tag .badValue [] s
      | some vs =>
        answer .tableWrite tag .ok [table, row]
          (s.setTst { s.tst with load := setRow s.tst.load t row.toNat vs })

/-- Whether the lock of a table refuses an activation: the Drum Table's does unless both governors are OFF (R158). -/
def lockRefuses (t : TableId) (s : State) : Bool :=
  decide (t = .drum ∧ ¬(s.governorL.state = .off ∧ s.governorR.state = .off))

/-- The effects an owner takes at the activation itself (section 8.7). -/
def activationEffects (t : TableId) (s : State) : State :=
  match t with
  | .drum => onGovernors governorActivated s
  | .poll => pollActivated s
  | .slurry => slurryActivated s
  | .mounting => s
  | .plan => s
  | .steering => s
  | .link => s

/-- TABLE ACTIVATE: the cross-row checks, the lock, then the copy and the owner's effects (R156 to R158). -/
def activateTable (tag table : Byte) (s : State) : State :=
  match tableIdOf table with
  | none => answer .tableActivate tag .badTable [] s
  | some t =>
    match failingRow s.tst.load t with
    | some row => answer .tableActivate tag .invalid [table, BitVec.ofNat 8 row] s
    | none =>
      if lockRefuses t s then answer .tableActivate tag .locked [table] s
      else
        answer .tableActivate tag .ok [table]
          (activationEffects t (s.setTst { s.tst with active := copyTable t s.tst.load s.tst.active }))

/-- The bank a byte names (R160). -/
def bankOf (x : Tst) (v : Byte) : Option Tables :=
  match v.toNat with
  | 0 => some x.active
  | 1 => some x.load
  | _ => none

/-- TABLE READ: the row as the bank holds it (R152, R160). -/
def readTable (tag table bank row : Byte) (extra : List Byte) (s : State) : State :=
  match tableIdOf table with
  | none => answer .tableRead tag .badTable [] s
  | some t =>
    match rowSpecs t row.toNat with
    | none => answer .tableRead tag .badRow [] s
    | some specs =>
      match bankOf s.tst bank, extra with
      | some b, [] =>
        answer .tableRead tag .ok (table :: bank :: row :: writeFields specs (rowFields b t row.toNat)) s
      | _, _ => answer .tableRead tag .badValue [] s

end Sys2Proof.Machine
end

