-- ==== Sys2Proof/Machine/Uplink.lean ====
section
/-! DEFINITION. The uplink: the frames the HC4 sends, and the arbiter that chooses them (09, section 9.7; 10). -/

namespace Sys2Proof.Machine

/-! ### Payloads -/

/-- An optional head-of-frame value, `none` as all ones. -/
def optionBytes (n : Nat) (v : Option Nat) : List Byte :=
  match v with
  | none => leBytes n (256 ^ n - 1)
  | some x => leBytes n x

/-- The bytes of one drum in STATUS: state, substate, C, last N_meas, duty (R185). -/
def governorBytes (g : Governor) : List Byte :=
  leBytes 1 (governorCode g.state) ++ leBytes 1 (governorPhaseCode g.state) ++ leBytes 2 g.speed ++ leBytes 2 g.nMeas
    ++ leBytes 2 g.duty

/-- The bytes of one plate in STATUS: state, last position (R185). -/
def plateBytes (p : Plate) : List Byte := leBytes 1 (plateCode p.state) ++ optionBytes 2 p.position

/-- The four items of a quad as bytes, P1 first. -/
def quadBytes {α : Type} (f : α → List Byte) (q : Quad α) : List Byte := f q.p1 ++ f q.p2 ++ f q.p3 ++ f q.p4

/-- The link and the tracker in STATUS (R185). -/
def statusHead (s : State) : List Byte :=
  let m := s.tst.active.mounting.params
  leBytes 4 s.headTime.toNat ++ leBytes 1 (linkCode s.ulp.link) ++ leBytes 1 s.ulp.rate.val
    ++ leBytes 1 (vtrCode s.vtr.state) ++ optionBytes 4 s.vtr.depth ++ leBytes 4 s.vtr.dFace
    ++ leBytes 2 s.vtr.generation.toNat ++ leBytes 2 s.vtr.log.length ++ leInt 4 (faceOffset m s.vtr false)
    ++ leInt 4 (faceOffset m s.vtr true) ++ leInt 2 (openMean m s.vtr .twist)

/-- The last errors in STATUS: presence, then E_x, E_y and W, 0 when absent (R185). -/
def errorBytes (e : Option SteeringErrors) : List Byte :=
  match e with
  | none => leBytes 1 0 ++ leInt 4 0 ++ leInt 4 0 ++ leInt 2 0
  | some x => leBytes 1 1 ++ leInt 4 x.ex ++ leInt 4 x.ey ++ leInt 2 x.w

/-- The planner and the positioner in STATUS (R185). -/
def statusSteering (s : State) : List Byte :=
  leInt 2 s.spl.deltaN ++ quadBytes (leBytes 2) s.spl.targets ++ errorBytes s.spl.lastErrors
    ++ leBytes 1 (modeCode (effectiveMode s)) ++ quadBytes plateBytes s.pps.plates
    ++ leBytes 1
        (boolNat s.pps.plates.p1.stuckLatch + 2 * boolNat s.pps.plates.p2.stuckLatch
          + 4 * boolNat s.pps.plates.p3.stuckLatch + 8 * boolNat s.pps.plates.p4.stuckLatch)

/-- The drums, the pump, the account and the link summary in STATUS (R185). -/
def statusTail (s : State) : List Byte :=
  governorBytes s.governorL ++ governorBytes s.governorR ++ leBytes 1 (pumpCode s.sru.pump)
    ++ leBytes 1 (pumpPhaseCode s.sru.pump) ++ leBytes 2 s.sru.duty
    ++ leBytes 1
        (boolNat s.governorL.prot.latch + 2 * boolNat s.governorR.prot.latch + 4 * boolNat s.sru.prot.latch)
    ++ leBytes 4 s.sru.account ++ leBytes 1 s.sru.level ++ leBytes 2 (loadFactor s) ++ leBytes 1 (boolNat s.sru.held)
    ++ leBytes 1 (summaryByte s.ulp.summary)

/-- The payload of a STATUS frame, 94 bytes (R185). -/
def statusPayload (s : State) : List Byte := statusHead s ++ statusSteering s ++ statusTail s

/-- The payload of an EVENT frame, 15 bytes (R187). -/
def eventPayload (e : EventEntry) : List Byte :=
  leBytes 1 (eventKindCode e.kind) ++ leBytes 1 (eventSourceCode e.source) ++ leInt 4 e.value
    ++ leBytes 4 e.first.toNat ++ leBytes 4 e.last.toNat ++ leBytes 1 e.count

/-- The payload of an ANSWER frame (R177). -/
def answerPayload (a : Answer) : List Byte := a.kind :: BitVec.ofNat 8 (resultCode a.result) :: a.payload

/-- The payload of a TELEMETRY frame (09, section 9.7). -/
def telemetryPayload (r : TelemetryRecord) : List Byte :=
  leBytes 1 r.slot ++ leBytes 1 (roleCode r.role) ++ leBytes 4 r.time.toNat ++ leBytes 1 (tagsByte r.tags)
    ++ r.payload.getD []

/-- A station record in a LOG DATA frame, 39 bytes (R189). -/
def recordBytes (r : StationRecord) : List Byte :=
  leBytes 2 r.index ++ leBytes 4 r.depth ++ leInt 4 r.mX ++ leInt 4 r.mY ++ leInt 2 r.mT ++ leInt 6 r.sX
    ++ leInt 6 r.sY ++ leInt 4 (offsetOf r.sX) ++ leInt 4 (offsetOf r.sY) ++ leBytes 2 r.sampleCount
    ++ leBytes 1 (stationFlagsByte r.flags)

/-- The number of records the next LOG DATA frame of a readout carries (R189). -/
def chunk (r : Readout) : Nat := min 4 r.remaining

/-- The payload of the next LOG DATA frame of a readout (R189). -/
def logPayload (v : Vtr) (r : Readout) : List Byte :=
  let rs := (v.log.drop r.next).take (chunk r)
  leBytes 2 v.generation.toNat ++ leBytes 2 v.log.length ++ leBytes 2 r.next ++ leBytes 1 (chunk r)
    ++ rs.flatMap recordBytes

/-- A readout after one LOG DATA frame: none once its remaining count is 0 (R189). -/
def readoutAfter (r : Readout) : Option Readout :=
  if r.remaining - chunk r = 0 then none else some ⟨r.next + chunk r, r.remaining - chunk r⟩

/-! ### The arbiter (R179) -/

/-- A source of uplink frames, in the arbiter's order. -/
inductive UplinkSource where
  | feedHold (holdTime : Nat)
  | event (entry : EventEntry) (rest : List EventEntry)
  | answer (a : Answer) (rest : List Answer)
  | log (r : Readout)
  | status
  | telemetry (r : TelemetryRecord) (rest : List TelemetryRecord)
deriving DecidableEq, Repr

/-- The first source, in the order of R179, that has a frame. -/
def firstSource (s : State) : Option UplinkSource :=
  match s.ulp.feedHold with
  | some t => some (.feedHold t)
  | none =>
    match s.rpu.events with
    | e :: es => some (.event e es)
    | [] =>
      match s.ulp.answers with
      | a :: rest => some (.answer a rest)
      | [] =>
        match s.rpu.readout with
        | some r => some (.log r)
        | none =>
          if s.ulp.statusPending then some .status
          else
            match s.ulp.telemetry with
            | r :: rest => some (.telemetry r rest)
            | [] => none

/-- The frame a source gives: its kind, its tag and its payload, fixed at the choice (R179, section 9.7). -/
def sourceFrame (s : State) (x : UplinkSource) : TxFrame :=
  match x with
  | .feedHold t => ⟨0x83#8, 0#8, leBytes 2 t, s.ulp.rate⟩
  | .event e _ => ⟨0x82#8, 0#8, eventPayload e, s.ulp.rate⟩
  | .answer a _ => ⟨0x84#8, a.tag, answerPayload a, s.ulp.rate⟩
  | .log r => ⟨0x85#8, 0#8, logPayload s.vtr r, s.ulp.rate⟩
  | .status => ⟨0x81#8, 0#8, statusPayload s, s.ulp.rate⟩
  | .telemetry r _ => ⟨0x80#8, 0#8, telemetryPayload r, s.ulp.rate⟩

/-- The state with a source's frame taken from it; STATUS also clears the latches of the link summary (R179, R185). -/
def takeSource (x : UplinkSource) (s : State) : State :=
  match x with
  | .feedHold _ => s.setUlp { s.ulp with feedHold := none }
  | .event _ rest => s.setRpu { s.rpu with events := rest }
  | .answer _ rest => s.setUlp { s.ulp with answers := rest }
  | .log r => s.setRpu { s.rpu with readout := readoutAfter r }
  | .status => s.setUlp { s.ulp with statusPending := false, summary := clearSummary }
  | .telemetry _ rest => s.setUlp { s.ulp with telemetry := rest }

/-- The state with the uplink sending a frame. -/
def startFrame (f : TxFrame) (s : State) : State := s.setUlp { s.ulp with uplink := .sending, tx := some f }

/-- The arbiter of an idle uplink: in ONLINE and LOSS it chooses a frame as soon as a source has one (R179). It is
asked at the end of every command, when the command's effects are all made (log 10). -/
def serveUplink (s : State) : State :=
  if s.ulp.uplink = .idle ∧ s.ulp.link ≠ .hunt then
    match firstSource s with
    | none => s
    | some x => startFrame (sourceFrame s x) (takeSource x s)
  else s

/-- The end of the frame in transmission: the uplink falls idle, or SILENT in HUNT; a sync reply that waited for the
end goes on (R179, R170). -/
def frameEnd (s : State) : State :=
  match s.ulp.tx with
  | none => s
  | some _ =>
    match s.ulp.uplink with
    | .sending =>
      s.setUlp { s.ulp with tx := none, uplink := if s.ulp.link = .hunt then .silent else .idle }
    | .sync => s.setUlp { s.ulp with tx := none }
    | .idle => s
    | .silent => s

/-- The end of the sync reply: the uplink enters IDLE (R170). -/
def syncReplyDone (s : State) : State :=
  if s.ulp.uplink = .sync ∧ s.ulp.tx = none then s.setUlp { s.ulp with uplink := .idle } else s

/-- The bytes of a frame in transmission (section 9.4). -/
def txBytes (f : TxFrame) : List Byte := frameBytes f.kind f.tag f.payload

end Sys2Proof.Machine
end

