-- ==== Sys2Proof/Machine/Link.lean ====
section
/-! DEFINITION. The Umbilical Link Port: the search for the rate, ONLINE and LOSS, the receive assembly, and the valid
frames of each kind (09); and the Report Unit's requests (10). -/

namespace Sys2Proof.Machine

/-! ### Link states -/

/-- The link deadline restarted from the active link timeout (R171). -/
def restartLinkDeadline (s : State) : State :=
  s.setUlp { s.ulp with linkDeadline := some (after s.headTime s.tst.active.link.linkTimeout) }

/-- The status deadline started from the active status period (R184). -/
def startStatusDeadline (s : State) : State :=
  s.setRpu { s.rpu with statusDeadline := some (after s.headTime s.tst.active.link.statusPeriod) }

/-- The dwell of HUNT, in ms (R169). -/
def huntDwell : Nat := 250

/-- The lock: ONLINE at the candidate rate, the link and status deadlines, the sync reply, and the positioner's pass at
the entry (R170, R184, R122). -/
def lockLink (s : State) : State :=
  let t := s.setUlp { s.ulp with link := .online, dwellDeadline := none, lockRun := 0, uplink := .sync }
  decisionPass (startStatusDeadline (restartLinkDeadline t))

/-- A character received in HUNT: the lock run, and the lock at 8 (R170). -/
def huntCharacter (c : LinkChar) (s : State) : State :=
  if c.data = 0x55#8 ∧ charError c = false then
    if 8 ≤ s.ulp.lockRun + 1 then lockLink s else s.setUlp { s.ulp with lockRun := s.ulp.lockRun + 1 }
  else s.setUlp { s.ulp with lockRun := 0 }

/-- A HUNT dwell ends: the next candidate of the cycle, the lock run 0, a new dwell (R169). -/
def huntDwellEnds (s : State) : State :=
  if s.ulp.link = .hunt ∧ expired s.ulp.dwellDeadline s.headTime then
    s.setUlp
      { s.ulp with rate := s.ulp.rate + 1, lockRun := 0, dwellDeadline := some (after s.headTime huntDwell) }
  else s

/-- The notices of an entry into LOSS or HUNT: tracker, governors, positioner, then the link evaluation (R173, R31). -/
def linkNotices (hunt : Bool) (s : State) : State :=
  evaluateAndHand (linkNoticePlates hunt (onGovernors governorLinkNotice (s.setVtr (loseDepth s.vtr))))

/-- The link deadline is reached in ONLINE: LOSS, with LINK_LOSS and the notices (R171). -/
def linkExpiry (s : State) : State :=
  if s.ulp.link = .online ∧ expired s.ulp.linkDeadline s.headTime then
    linkNotices false
      (post .linkLoss .link s.ulp.rate.val
        (s.setUlp
          { s.ulp with
            link := .loss
            linkDeadline := none
            relockDeadline := some (after s.headTime s.tst.active.link.relockTimeout) }))
  else s

/-- The uplink at an entry into HUNT: SILENT, but for a frame in transmission, which completes (R169, log 11). -/
def silencedUplink (u : Ulp) : UplinkState := if u.tx.isSome then .sending else .silent

/-- The relock deadline is reached in LOSS: HUNT at the rate that was locked, with the notices repeated (R172, R169). -/
def relockExpiry (s : State) : State :=
  if s.ulp.link = .loss ∧ expired s.ulp.relockDeadline s.headTime then
    let t :=
      s.setUlp
        { s.ulp with
          link := .hunt
          relockDeadline := none
          rx := .waitStart
          lockRun := 0
          dwellDeadline := some (after s.headTime huntDwell)
          uplink := silencedUplink s.ulp }
    linkNotices true (t.setRpu { t.rpu with statusDeadline := none })
  else s

/-- The status deadline is reached in ONLINE or LOSS: the STATUS slot pending, and the deadline set again (R184). -/
def statusExpiry (s : State) : State :=
  if s.ulp.link ≠ .hunt ∧ expired s.rpu.statusDeadline s.headTime then
    startStatusDeadline (s.setUlp { s.ulp with statusPending := true })
  else s

/-- The link stage of a CONTROL frame: the link deadline restarted, and in LOSS the return to ONLINE first, with
LINK_RESTORED (R171, R172, R176). -/
def controlLink (s : State) : State :=
  if s.ulp.link = .loss then
    post .linkRestored .link s.ulp.rate.val
      (restartLinkDeadline (s.setUlp { s.ulp with link := .online, relockDeadline := none }))
  else restartLinkDeadline s

/-! ### Valid frames -/

/-- A frame discarded: its latch, the discard count, FRAME_ERRORS at 8 (R174, R175). -/
def discardFrame (s : State) : State :=
  let u := { s.ulp with rx := .waitStart, summary := { s.ulp.summary with frameDiscarded := true } }
  if 8 ≤ s.ulp.discards + 1 then post .frameErrors .link 8 (s.setUlp { u with discards := 0 })
  else s.setUlp { u with discards := s.ulp.discards + 1 }

/-- A valid frame received: the assembly waits for the next, and the discard count is 0 (R174, R175). -/
def acceptFrame (s : State) : State := s.setUlp { s.ulp with rx := .waitStart, discards := 0 }

/-- The fields of a CONTROL frame delivered, the control evaluation, and the decision pass (R176). -/
def deliverControl (f : ControlFields) (s : State) : State :=
  let linked := controlLink s
  let drums :=
    takeDrumFields .right f.directionR f.enableR
      (takeDrumFields .left f.directionL f.enableL (takeNSet f.nSet.toNat linked))
  let pump := takePumpFields f.pumpSetpoint.toNat f.supplyDensity.toNat f.pumpEnable drums
  let plates :=
    takeManualTargets ⟨f.manualP1.toNat, f.manualP2.toNat, f.manualP3.toNat, f.manualP4.toNat⟩ (takeMode f.mode pump)
  let steering := takeManualDelta f.manualDelta.toInt plates
  decisionPass (evaluate (takeDepth f.depth.toNat steering))

/-- A request of an answered kind: with all places occupied it is not executed and ANSWER_OVERFLOW is set (R177). -/
def ifAnswerable (body : State → State) (s : State) : State :=
  if occupiedPlaces s < answerPlaces then body s else latchOverflow s

/-- PANEL START (R24, R25). -/
def requestPanelStart (tag : Byte) (d0 : Nat) (ox oy : Int) (s : State) : State :=
  if panelFieldsOk d0 ox oy then answer .panelStart tag .ok [] (startPanel d0 ox oy s)
  else answer .panelStart tag .badValue [] s

/-- The readout that a LOG READ is granted (R188). -/
def grantedReadout (first count stations : Nat) : Readout := ⟨first, min count (stations - first)⟩

/-- LOG READ (R188). -/
def requestLogRead (tag : Byte) (first count : Nat) (s : State) : State :=
  let stations := s.vtr.log.length
  if count = 0 ∨ 64 < count then answer .logRead tag .badValue [] s
  else if s.rpu.readout.isSome then answer .logRead tag .busy [] s
  else if stations ≤ first then answer .logRead tag .range [] s
  else
    let r := grantedReadout first count stations
    answer .logRead tag .ok (leBytes 1 r.remaining ++ leBytes 2 s.vtr.generation.toNat ++ leBytes 2 stations)
      (s.setRpu { s.rpu with readout := some r })

/-- What a CLEAR selector names (R190). -/
inductive ClearSelector where
  | drum (d : Drum)
  | pump
  | plates
  | all
deriving DecidableEq, Repr

/-- The selector of a byte (R190). -/
def selectorOf (v : Byte) : Option ClearSelector :=
  match v.toNat with
  | 0 => some (.drum .left)
  | 1 => some (.drum .right)
  | 2 => some .pump
  | 3 => some .plates
  | 4 => some .all
  | _ => none

/-- A CLEAR dispatched to the units its selector names (R190, R87, R126). -/
def dispatchClear (x : ClearSelector) (s : State) : State :=
  match x with
  | .drum d => onGovernor governorCleared d s
  | .pump => clearPump s
  | .plates => clearPlates s
  | .all => clearPlates (clearPump (onGovernors governorCleared s))

/-- CLEAR (R190). -/
def requestClear (tag selector : Byte) (s : State) : State :=
  match selectorOf selector with
  | none => answer .clear tag .badValue [] s
  | some x => answer .clear tag .ok [] (dispatchClear x s)

/-- NODE ACCESS (R145). -/
def requestNodeAccess (tag address op register : Byte) (value : BitVec 16) (s : State) : State :=
  match accessOpOf op with
  | none => answer .nodeAccess tag .badValue [] s
  | some o =>
    if address.toNat < 1 ∨ 31 < address.toNat then answer .nodeAccess tag .badValue [] s
    else if s.sbm.access.isSome then answer .nodeAccess tag .busy [] s
    else arbitrate (s.setSbm { s.sbm with access := some ⟨address.toNat, o, register, value, tag⟩ })

/-- STATUS REQUEST (R184). -/
def requestStatus (s : State) : State := s.setUlp { s.ulp with statusPending := true }

/-- ECHO (R178). -/
def requestEcho (tag : Byte) (payload : List Byte) (s : State) : State :=
  if payload.length ≤ 118 then answer .echo tag .ok payload s else answer .echo tag .badValue [] s

/-! ### HEAD RESET (R191) -/

/-- HEAD RESET of the planner, with its target change (R47, R29). -/
def headResetPlanner (s : State) : State := handTargets s.spl.targets (s.setSpl resetSpl)

/-- HEAD RESET of the planner and the positioner, in either order (R47, R132, R191, log 13). Where both orders leave
the positioner alike, the order does not enter. -/
def headResetSteering (s : State) : State :=
  let plannerFirst := headResetPlates (headResetPlanner s)
  let platesFirst := headResetPlanner (headResetPlates s)
  (if plannerFirst.pps = platesFirst.pps then platesFirst
    else if Config.plannerResetFirst s.freeSeq then plannerFirst
    else platesFirst).nextFree

/-- HEAD RESET of the port: the link deadline in ONLINE, the queues and slots emptied, the latches cleared (R183). -/
def headResetUlp (now : HeadTime) (t : LinkTable) (u : Ulp) : Ulp :=
  { u with
    linkDeadline := if u.link = .online then some (after now t.linkTimeout) else u.linkDeadline
    rx := .waitStart
    discards := 0
    answers := []
    telemetry := []
    feedHold := none
    statusPending := false
    summary := clearSummary }

/-- HEAD RESET of the Report Unit: queue and readout emptied, the status deadline set in ONLINE and LOSS (R191). -/
def headResetRpu (now : HeadTime) (t : LinkTable) (hunt : Bool) (r : Rpu) : Rpu where
  statusDeadline := if hunt then r.statusDeadline else some (after now t.statusPeriod)
  events := []
  readout := none

/-- HEAD RESET: every block takes its control reset, and the answer OK is placed in the emptied queue (R191). -/
def requestHeadReset (tag : Byte) (s : State) : State :=
  let steering := headResetSteering s
  let drums := (onGovernors governorHeadReset steering).setNSet 0
  let slurry := drums.setSru (headResetSru s.headTime drums.sru)
  let tracker := slurry.setVtr (headResetVtr slurry.vtr)
  let bus := tracker.setSbm (headResetSbm s.headTime s.tst.active.poll)
  let port := bus.setUlp (headResetUlp s.headTime s.tst.active.link bus.ulp)
  let report := port.setRpu (headResetRpu s.headTime s.tst.active.link (decide (s.ulp.link = .hunt)) port.rpu)
  answer .headReset tag .ok [] report

/-! ### The receive assembly (R174) -/

/-- What a valid frame does, by its kind; a command that is no frame does nothing here (R175). -/
def executeFrame (i : Instr) (s : State) : State :=
  match i with
  | .control _ f => deliverControl f s
  | .tableOpen tag t => ifAnswerable (openTable tag t) s
  | .tableWrite tag t row fields => ifAnswerable (writeTable tag t row fields) s
  | .tableActivate tag t => ifAnswerable (activateTable tag t) s
  | .tableRead tag t bank row extra => ifAnswerable (readTable tag t bank row extra) s
  | .panelStart tag d0 ox oy => ifAnswerable (requestPanelStart tag d0.toNat ox.toInt oy.toInt) s
  | .logRead tag first count => ifAnswerable (requestLogRead tag first.toNat count.toNat) s
  | .clear tag selector => ifAnswerable (requestClear tag selector) s
  | .nodeAccess tag address op register value => ifAnswerable (requestNodeAccess tag address op register value) s
  | .statusRequest _ => requestStatus s
  | .echo tag payload => ifAnswerable (requestEcho tag payload) s
  | .headReset tag => ifAnswerable (requestHeadReset tag) s
  | .hardwareReset => s
  | .syncCharacter _ => s
  | .huntDwellExpiry => s
  | .frameDiscard _ => s
  | .frameGapTimeout => s
  | .linkTimeout => s
  | .relockTimeout => s
  | .statusDeadline => s
  | .slotDue _ => s
  | .pairRelease => s
  | .responseComplete _ => s
  | .responseTimeout => s
  | .quietEnd => s
  | .offTimeExpiry _ => s
  | .primeTimeout => s
  | .dryTimeout => s
  | .refreshDeadline => s
  | .strokeTimeout _ => s
  | .dwellEnd _ => s
  | .uplinkFrameEnd => s
  | .syncReplyEnd => s

/-- A valid frame taken: nothing in HUNT, where no frame is gathered; else the assembly and the discard count, then
what its kind does (R169, R175). -/
def takeFrame (i : Instr) (s : State) : State :=
  if s.ulp.link = .hunt then s else executeFrame i (acceptFrame s)

/-- A frame that fails a check, or whose gap is too long: discarded in ONLINE and LOSS (R169, R175). -/
def takeDiscard (s : State) : State := if s.ulp.link = .hunt then s else discardFrame s

/-- The gap of a frame being gathered expires (R174, log 8). -/
def gapExpiry (s : State) : State :=
  match s.ulp.rx with
  | .waitStart => s
  | .gathering _ => takeDiscard s

/-- The characters of a frame after its start character, its payload as long as its length field names: length, kind,
tag, payload and two CRC bytes (section 9.4). -/
def frameLength (chars : List Byte) : Nat :=
  match chars with
  | [] => 5
  | len :: _ => len.toNat + 5

/-- A character received in ONLINE or LOSS, passed to the receive assembly (R168, R174, log 6). -/
def assembleCharacter (c : LinkChar) (s : State) : State :=
  match s.ulp.rx with
  | .waitStart =>
    if c.data = frameStart ∧ charError c = false then s.setUlp { s.ulp with rx := .gathering [] } else s
  | .gathering chars =>
    let more := chars ++ [c.data]
    if charError c then discardFrame s
    else if maxDownlinkPayload + 5 < frameLength more then discardFrame s
    else if more.length < frameLength more then s.setUlp { s.ulp with rx := .gathering more }
    else
      match decodeFrame more with
      | none => discardFrame s
      | some i => takeFrame i s

/-- A character received on the downlink pair (R168, R170, R174). -/
def receiveCharacter (c : LinkChar) (s : State) : State :=
  if s.ulp.link = .hunt then huntCharacter c s else assembleCharacter c s

end Sys2Proof.Machine
end

