-- ==== Sys2Proof/Machine/Clock.lean ====
section
/-! DEFINITION. What a step does on an empty queue: it fires the timers that are due, or lets one millisecond pass
(log 2, log 3). -/

namespace Sys2Proof.Machine

/-- Whether the off-time of a unit in a TRIP phase has run out (R82). -/
def phaseExpired (now : HeadTime) (p : TripPhase) : Bool :=
  match p with
  | .timing deadline => reached deadline now
  | .waiting => false

/-- Whether the off-time of a unit has run out (R82). -/
def offTimeDue (u : ProtectedUnit) (s : State) : Bool :=
  match u with
  | .drum d =>
    match (s.governor d).state with
    | .trip p => phaseExpired s.headTime p
    | .off => false
    | .run => false
    | .stopping => false
    | .lockout => false
    | .nofb => false
  | .pump =>
    match s.sru.pump with
    | .trip p => phaseExpired s.headTime p
    | .off => false
    | .prime => false
    | .run => false
    | .lockout => false

/-- Whether the stroke deadline of a plate is reached while it moves (R125). -/
def strokeDue (id : PlateId) (s : State) : Bool :=
  (plateMotion (s.pps.plates.get id)).isSome && expired (s.pps.plates.get id).strokeDeadline s.headTime

/-- Whether the reversal dwell of a plate has run out (R121). -/
def dwellDue (id : PlateId) (s : State) : Bool := expired ((s.pps.plates.get id).bar.map (fun b => b.deadline)) s.headTime

/-- Whether the response deadline is reached (R135). -/
def responseDue (s : State) : Bool :=
  match s.sbm.bus with
  | .response _ deadline => reached deadline s.headTime
  | .idle => false
  | .request _ => false
  | .quiet _ => false

/-- Whether the quiet deadline is reached (R150). -/
def quietDue (s : State) : Bool :=
  match s.sbm.bus with
  | .quiet deadline => reached deadline s.headTime
  | .idle => false
  | .request _ => false
  | .response _ _ => false

/-- Whether a due slot waits for an idle bus (R143). -/
def slotWaits (s : State) : Bool := decide (s.sbm.bus = .idle) && (granted s).isSome

/-- Every timer of the part as a command, with whether it is due. -/
def timers (s : State) : List (Bool × Instr) :=
  [(decide (s.ulp.link = .hunt) && expired s.ulp.dwellDeadline s.headTime, .huntDwellExpiry),
    (decide (s.ulp.link = .online) && expired s.ulp.linkDeadline s.headTime, .linkTimeout),
    (decide (s.ulp.link = .loss) && expired s.ulp.relockDeadline s.headTime, .relockTimeout),
    (decide (s.ulp.link ≠ .hunt) && expired s.rpu.statusDeadline s.headTime, .statusDeadline),
    (slotWaits s, .slotDue ((nextSlot s).getD 0)),
    (responseDue s, .responseTimeout),
    (quietDue s, .quietEnd),
    (offTimeDue (.drum .left) s, .offTimeExpiry (.drum .left)),
    (offTimeDue (.drum .right) s, .offTimeExpiry (.drum .right)),
    (offTimeDue .pump s, .offTimeExpiry .pump),
    (decide (s.sru.pump = .prime) && expired s.sru.primeDeadline s.headTime, .primeTimeout),
    (decide (s.sru.pump = .run) && expired s.sru.dryDeadline s.headTime, .dryTimeout),
    (s.sru.held && expired s.sru.refreshDeadline s.headTime, .refreshDeadline)]
    ++ [PlateId.p1, .p2, .p3, .p4].map (fun p => (strokeDue p s, Instr.strokeTimeout p))
    ++ [PlateId.p1, .p2, .p3, .p4].map (fun p => (dwellDue p s, Instr.dwellEnd p))

/-- The expiries that are due, each with the free rank that orders it among the others (log 3); timers are numbered
from `code`. -/
def dueRanked (seq code : Nat) : List (Bool × Instr) → List (Nat × Instr)
  | [] => []
  | (due, i) :: rest =>
    if due then (Config.expiryRank seq code, i) :: dueRanked seq (code + 1) rest
    else dueRanked seq (code + 1) rest

/-- An expiry put among ordered ones, before the first of a greater rank. -/
def insertRanked (x : Nat × Instr) : List (Nat × Instr) → List (Nat × Instr)
  | [] => [x]
  | y :: rest => if x.1 < y.1 then x :: y :: rest else y :: insertRanked x rest

/-- The expiries in the order of their ranks. -/
def sortRanked : List (Nat × Instr) → List (Nat × Instr)
  | [] => []
  | x :: rest => insertRanked x (sortRanked rest)

/-- The expiries due now, in the order in which they are taken (log 3). -/
def dueExpiries (s : State) : List Instr := (sortRanked (dueRanked s.freeSeq 0 (timers s))).map (fun x => x.2)

/-- A step on an empty queue: the expiries due now join the queue, or head time advances by one millisecond (log 2). -/
def idle (s : State) : State :=
  match dueExpiries s with
  | [] => s.setHeadTime (s.headTime + 1)
  | q => (s.setPending q).nextFree

end Sys2Proof.Machine
end

