-- ==== Sys2Proof/Machine/BusCommands.lean ====
section
/-! DEFINITION. The meanings of the sensor bus events (07). -/

namespace Sys2Proof.Machine

/-- SLOT_DUE (R143). -/
def execSlotDue (slot : Nat) (s : State) : Host.Outcome State Fault Refusal :=
  .next (serveUplink (slotDueReached slot s))

/-- PAIR_RELEASE (R134). -/
def execPairRelease (s : State) : Host.Outcome State Fault Refusal := .next (serveUplink (releasePair s))

/-- RESPONSE_COMPLETE (R136). -/
def execResponseComplete (chars : List BusChar) (s : State) : Host.Outcome State Fault Refusal :=
  .next (serveUplink (receiveResponse chars s))

/-- RESPONSE_TIMEOUT (R135). -/
def execResponseTimeout (s : State) : Host.Outcome State Fault Refusal := .next (serveUplink (responseExpiry s))

/-- QUIET_END (R150). -/
def execQuietEnd (s : State) : Host.Outcome State Fault Refusal := .next (serveUplink (quietExpiry s))

end Sys2Proof.Machine
end

