-- ==== Sys2Proof/Machine/FrameCommands.lean ====
section
/-! DEFINITION. The meanings of the downlink frames (R174 to R178). -/

namespace Sys2Proof.Machine

/-- FRAME_DISCARD (R175): every cause has the same effect. -/
def execFrameDiscard (_cause : DiscardCause) (s : State) : Host.Outcome State Fault Refusal :=
  .next (serveUplink (takeDiscard s))

/-- FRAME_GAP_TIMEOUT (R174). -/
def execFrameGapTimeout (s : State) : Host.Outcome State Fault Refusal := .next (serveUplink (gapExpiry s))

/-- CONTROL (R176). -/
def execControl (tag : Byte) (fields : ControlFields) (s : State) : Host.Outcome State Fault Refusal :=
  .next (serveUplink (takeFrame (.control tag fields) s))

/-- TABLE_OPEN (R153). -/
def execTableOpen (tag table : Byte) (s : State) : Host.Outcome State Fault Refusal :=
  .next (serveUplink (takeFrame (.tableOpen tag table) s))

/-- TABLE_WRITE (R154). -/
def execTableWrite (tag table row : Byte) (fields : List Byte) (s : State) : Host.Outcome State Fault Refusal :=
  .next (serveUplink (takeFrame (.tableWrite tag table row fields) s))

/-- TABLE_ACTIVATE (R156). -/
def execTableActivate (tag table : Byte) (s : State) : Host.Outcome State Fault Refusal :=
  .next (serveUplink (takeFrame (.tableActivate tag table) s))

/-- TABLE_READ (R160). -/
def execTableRead (tag table bank row : Byte) (extra : List Byte) (s : State) : Host.Outcome State Fault Refusal :=
  .next (serveUplink (takeFrame (.tableRead tag table bank row extra) s))

/-- PANEL_START (R24, R25). -/
def execPanelStart (tag : Byte) (d0 : BitVec 32) (ox oy : BitVec 16) (s : State) : Host.Outcome State Fault Refusal :=
  .next (serveUplink (takeFrame (.panelStart tag d0 ox oy) s))

/-- LOG_READ (R188). -/
def execLogRead (tag : Byte) (first : BitVec 16) (count : Byte) (s : State) : Host.Outcome State Fault Refusal :=
  .next (serveUplink (takeFrame (.logRead tag first count) s))

/-- CLEAR (R190). -/
def execClear (tag selector : Byte) (s : State) : Host.Outcome State Fault Refusal :=
  .next (serveUplink (takeFrame (.clear tag selector) s))

/-- NODE_ACCESS (R145). -/
def execNodeAccess (tag address op register : Byte) (value : BitVec 16) (s : State) :
    Host.Outcome State Fault Refusal :=
  .next (serveUplink (takeFrame (.nodeAccess tag address op register value) s))

/-- STATUS_REQUEST (R184). -/
def execStatusRequest (tag : Byte) (s : State) : Host.Outcome State Fault Refusal :=
  .next (serveUplink (takeFrame (.statusRequest tag) s))

/-- ECHO (R178). -/
def execEcho (tag : Byte) (payload : List Byte) (s : State) : Host.Outcome State Fault Refusal :=
  .next (serveUplink (takeFrame (.echo tag payload) s))

/-- HEAD_RESET (R191). -/
def execHeadReset (tag : Byte) (s : State) : Host.Outcome State Fault Refusal :=
  .next (serveUplink (takeFrame (.headReset tag) s))

end Sys2Proof.Machine
end

