-- ==== Sys2Proof/Machine/LinkCommands.lean ====
section
/-! DEFINITION. The meanings of the reset, the downlink character and the link timers. Every meaning ends by asking the
uplink arbiter, which in IDLE chooses as soon as a source has a frame (R179, log 10). -/

namespace Sys2Proof.Machine

/-- HARDWARE_RESET (R182): every block and table in its reset state; the model's own queue and free-value counter are
kept (log 23). -/
def execHardwareReset (s : State) : Host.Outcome State Fault Refusal :=
  .next { State.reset with freeSeq := s.freeSeq, pending := s.pending }

/-- SYNC_CHARACTER (R170; R174 in ONLINE and LOSS). -/
def execSyncCharacter (c : LinkChar) (s : State) : Host.Outcome State Fault Refusal :=
  .next (serveUplink (receiveCharacter c s))

/-- HUNT_DWELL_EXPIRY (R169). -/
def execHuntDwellExpiry (s : State) : Host.Outcome State Fault Refusal := .next (serveUplink (huntDwellEnds s))

/-- LINK_TIMEOUT (R171). -/
def execLinkTimeout (s : State) : Host.Outcome State Fault Refusal := .next (serveUplink (linkExpiry s))

/-- RELOCK_TIMEOUT (R172). -/
def execRelockTimeout (s : State) : Host.Outcome State Fault Refusal := .next (serveUplink (relockExpiry s))

/-- STATUS_DEADLINE (R184). -/
def execStatusDeadline (s : State) : Host.Outcome State Fault Refusal := .next (serveUplink (statusExpiry s))

end Sys2Proof.Machine
end

