-- ==== Sys2Proof/Machine/TimerCommands.lean ====
section
/-! DEFINITION. The meanings of the timers of the drums, the pump, feed hold and the plates (04, 05, 06). -/

namespace Sys2Proof.Machine

/-- The off-time of a protected unit ends (R83, R84). -/
def offTimeEnds (u : ProtectedUnit) (s : State) : State :=
  match u with
  | .drum d => drumOffTimeExpiry d s
  | .pump => pumpOffTimeExpiry s

/-- OFF_TIME_EXPIRY (R83, R84). -/
def execOffTimeExpiry (unit : ProtectedUnit) (s : State) : Host.Outcome State Fault Refusal :=
  .next (serveUplink (offTimeEnds unit s))

/-- PRIME_TIMEOUT (R101). -/
def execPrimeTimeout (s : State) : Host.Outcome State Fault Refusal := .next (serveUplink (primeExpiry s))

/-- DRY_TIMEOUT (R102). -/
def execDryTimeout (s : State) : Host.Outcome State Fault Refusal := .next (serveUplink (dryExpiry s))

/-- REFRESH_DEADLINE (R112). -/
def execRefreshDeadline (s : State) : Host.Outcome State Fault Refusal := .next (serveUplink (refreshExpiry s))

/-- STROKE_TIMEOUT (R125). -/
def execStrokeTimeout (plate : PlateId) (s : State) : Host.Outcome State Fault Refusal :=
  .next (serveUplink (strokeExpiry plate s))

/-- DWELL_END (R121). -/
def execDwellEnd (plate : PlateId) (s : State) : Host.Outcome State Fault Refusal :=
  .next (serveUplink (dwellExpiry plate s))

end Sys2Proof.Machine
end

