-- ==== Sys2Proof/Machine/UplinkCommands.lean ====
section
/-! DEFINITION. The meanings of the uplink's own events (R179, R170). -/

namespace Sys2Proof.Machine

/-- UPLINK_FRAME_END (R179): the frame ends, and the arbiter chooses the next. -/
def execUplinkFrameEnd (s : State) : Host.Outcome State Fault Refusal := .next (serveUplink (frameEnd s))

/-- SYNC_REPLY_END (R170): the uplink enters IDLE, and the arbiter may choose. -/
def execSyncReplyEnd (s : State) : Host.Outcome State Fault Refusal := .next (serveUplink (syncReplyDone s))

end Sys2Proof.Machine
end

