-- ==== Sys2Proof/Machine/Dispatch.lean ====
section
/-! DEFINITION. One arm per command. -/

namespace Sys2Proof.Machine

def exec (i : Instr) (s : State) : Host.Outcome State Fault Refusal :=
  match i with
  | .hardwareReset => Sys2Proof.Machine.execHardwareReset s
  | .syncCharacter c => Sys2Proof.Machine.execSyncCharacter c s
  | .huntDwellExpiry => Sys2Proof.Machine.execHuntDwellExpiry s
  | .frameDiscard cause => Sys2Proof.Machine.execFrameDiscard cause s
  | .frameGapTimeout => Sys2Proof.Machine.execFrameGapTimeout s
  | .control tag fields => Sys2Proof.Machine.execControl tag fields s
  | .tableOpen tag table => Sys2Proof.Machine.execTableOpen tag table s
  | .tableWrite tag table row fields => Sys2Proof.Machine.execTableWrite tag table row fields s
  | .tableActivate tag table => Sys2Proof.Machine.execTableActivate tag table s
  | .tableRead tag table bank row extra => Sys2Proof.Machine.execTableRead tag table bank row extra s
  | .panelStart tag d0 ox oy => Sys2Proof.Machine.execPanelStart tag d0 ox oy s
  | .logRead tag first count => Sys2Proof.Machine.execLogRead tag first count s
  | .clear tag selector => Sys2Proof.Machine.execClear tag selector s
  | .nodeAccess tag address op register value => Sys2Proof.Machine.execNodeAccess tag address op register value s
  | .statusRequest tag => Sys2Proof.Machine.execStatusRequest tag s
  | .echo tag payload => Sys2Proof.Machine.execEcho tag payload s
  | .headReset tag => Sys2Proof.Machine.execHeadReset tag s
  | .linkTimeout => Sys2Proof.Machine.execLinkTimeout s
  | .relockTimeout => Sys2Proof.Machine.execRelockTimeout s
  | .statusDeadline => Sys2Proof.Machine.execStatusDeadline s
  | .slotDue slot => Sys2Proof.Machine.execSlotDue slot s
  | .pairRelease => Sys2Proof.Machine.execPairRelease s
  | .responseComplete chars => Sys2Proof.Machine.execResponseComplete chars s
  | .responseTimeout => Sys2Proof.Machine.execResponseTimeout s
  | .quietEnd => Sys2Proof.Machine.execQuietEnd s
  | .offTimeExpiry unit => Sys2Proof.Machine.execOffTimeExpiry unit s
  | .primeTimeout => Sys2Proof.Machine.execPrimeTimeout s
  | .dryTimeout => Sys2Proof.Machine.execDryTimeout s
  | .refreshDeadline => Sys2Proof.Machine.execRefreshDeadline s
  | .strokeTimeout plate => Sys2Proof.Machine.execStrokeTimeout plate s
  | .dwellEnd plate => Sys2Proof.Machine.execDwellEnd plate s
  | .uplinkFrameEnd => Sys2Proof.Machine.execUplinkFrameEnd s
  | .syncReplyEnd => Sys2Proof.Machine.execSyncReplyEnd s

end Sys2Proof.Machine
end

