-- ==== Sys2Proof/Machine/Pins.lean ====
section
/-! DEFINITION. The output pins, each a function of the state (00_scope.md, Signals; log 20). -/

namespace Sys2Proof.Machine

/-- The output pins: duties in per-mille for the PWM outputs, `true` for high or on. -/
structure Pins where
  sbdir : Bool
  dvl : Nat
  dvr : Nat
  ddl : Bool
  ddr : Bool
  pvo : Nat
  extend : Quad Bool
  retract : Quad Bool
deriving DecidableEq, Repr

/-- Whether the HC4 drives the sensor bus pair: from the grant to the release (R133). -/
def drivesPair (b : BusState) : Bool :=
  match b with
  | .request _ => true
  | .idle => false
  | .response _ _ => false
  | .quiet _ => false

/-- The extend output of a plate (R117). -/
def extendValve (p : Plate) : Bool := decide (p.state = .extend)

/-- The retract output of a plate (R117). -/
def retractValve (p : Plate) : Bool := decide (p.state = .retract)

/-- The output pins of a state (R49, R94, R117, R133). -/
def State.pins (s : State) : Pins where
  sbdir := drivesPair s.sbm.bus
  dvl := s.governorL.duty
  dvr := s.governorR.duty
  ddl := decide (s.governorL.running = .outward)
  ddr := decide (s.governorR.running = .outward)
  pvo := s.sru.duty
  extend := s.pps.plates.mapPlates (fun _ p => extendValve p)
  retract := s.pps.plates.mapPlates (fun _ p => retractValve p)

end Sys2Proof.Machine
end

