-- ==== Sys2Proof/Machine/Wire.lean ====
section
/-! DEFINITION. The characters on the pairs, bit by bit, and what the HC4 sends on the sensor bus and on the uplink in a
state (07, section 7.3; 09, sections 9.1 and 9.2). When each bit is sent is not modelled (log 5, log 28). -/

namespace Sys2Proof.Machine

/-! ### One character: eleven bits, in the order of the wire (R133, R168)

A bit is `true` when it is 1; the start bit is 0, and the stop bit and the line at rest are 1 (log 32). -/

/-- The bit times of a character on every pair (R133, R168). -/
def characterBits : Nat := 11

/-- The data bits of a byte, least significant bit first. -/
def dataBits (b : Byte) : List Bool := (List.range 8).map (fun i => b.getLsbD i)

/-- The bits of a sensor bus character: start, data, marker, stop (R133). -/
def busBits (c : BusChar) : List Bool := false :: (dataBits c.data ++ [c.marker, c.stop])

/-- The bits of an umbilical character: start, data, parity, stop (R168). -/
def linkBits (c : LinkChar) : List Bool := false :: (dataBits c.data ++ [c.parity, c.stop])

/-- The number that bits spell, least significant bit first. -/
def ofBits : List Bool → Nat
  | [] => 0
  | b :: bs => boolNat b + 2 * ofBits bs

/-- The data, the ninth bit and the stop bit of eleven received bits; none where they do not begin with a start bit. -/
def readBits : List Bool → Option (Byte × Bool × Bool)
  | [false, b0, b1, b2, b3, b4, b5, b6, b7, ninth, stop] =>
    some (BitVec.ofNat 8 (ofBits [b0, b1, b2, b3, b4, b5, b6, b7]), ninth, stop)
  | _ => none

/-- The sensor bus character that eleven received bits are (R133). -/
def busCharOf (bits : List Bool) : Option BusChar :=
  (readBits bits).map (fun x => { marker := x.2.1, data := x.1, stop := x.2.2 })

/-- The umbilical character that eleven received bits are (R168). -/
def linkCharOf (bits : List Bool) : Option LinkChar :=
  (readBits bits).map (fun x => { data := x.1, parity := x.2.1, stop := x.2.2 })

/-- The character the HC4 sends on the uplink for a byte: the parity bit makes the number of ones even, and the stop bit
has its level (R168). -/
def sentChar (b : Byte) : LinkChar := { data := b, parity := onesCount b % 2 == 1, stop := true }

/-! ### Rates -/

/-- The baud rate of a rate code of the Poll Table (R133, 8.6.2). -/
def busBaud : Nat → Nat
  | 0 => 250000
  | 1 => 500000
  | _ => 1000000

/-- The baud rate of a rate code of the umbilical (09, section 9.1). -/
def linkBaud (rate : Fin 4) : Nat :=
  match rate.val with
  | 0 => 38400
  | 1 => 115200
  | 2 => 230400
  | _ => 460800

/-! ### What is sent -/

/-- The sync reply: eight 0x55 characters (R170). -/
def syncReply : List LinkChar := List.replicate 8 (sentChar 0x55#8)

/-- The characters of a frame in transmission (R168, R179). -/
def txChars (f : TxFrame) : List LinkChar := (txBytes f).map sentChar

/-- What the uplink pair carries in a state, with its baud rate: the frame in transmission, at the rate at which it
started; after it the sync reply, at the locked rate; nothing when the uplink rests (R168, R170, R179). -/
def uplinkSends (s : State) : Option (List LinkChar × Nat) :=
  match s.ulp.tx with
  | some f => some (txChars f, linkBaud f.rate)
  | none =>
    match s.ulp.uplink with
    | .sync => some (syncReply, linkBaud s.ulp.rate)
    | .silent => none
    | .idle => none
    | .sending => none

/-- What the SBM sends on the sensor bus in a state, with its baud rate: in REQUEST the request of the transaction, at
the rate fixed at its grant (R133, R134). -/
def busSends (s : State) : Option (List BusChar × Nat) :=
  match s.sbm.bus with
  | .request tx => some (requestChars tx, busBaud tx.rate)
  | .idle => none
  | .response _ _ => none
  | .quiet _ => none

end Sys2Proof.Machine
end

