-- ==== Sys2Proof/Safety.lean ====
section
/-! DEFINITION. What counts as a safe state of the part, in the terms the statements use: the conditions the rules say
always hold, each about one kind of state, and the words in which results are stated. -/

namespace Sys2Proof.Safety

open Sys2Proof.Machine

/-! ### Conditions that every step keeps -/

/-- Whether the valve of a plate is on. -/
def moving (p : Plate) : Bool := decide (p.state = .extend ∨ p.state = .retract)

/-- A plate is safe: its stroke timer runs exactly while its valve is on, its valve is on only while the link is ONLINE
and a position is known, and a STUCK plate has its latch set (R117, R120, R124, R125). -/
def plateSafe (link : LinkState) (p : Plate) : Prop :=
  (p.strokeDeadline.isSome = moving p) ∧ (moving p = true → link = .online ∧ p.position.isSome = true)
    ∧ (p.state = .stuck → p.stuckLatch = true)

/-- Every plate is safe (R117). -/
def platesSafe (s : State) : Prop := ∀ id : PlateId, plateSafe s.ulp.link (s.pps.plates.get id)

/-- Whether a governor is in RUN or STOPPING, the two states in which it drives its drum (R48). -/
def driving (g : Governor) : Bool := decide (g.state = .run ∨ g.state = .stopping)

/-- A governor is safe: outside RUN and STOPPING it has C and duty 0, it is in RUN only while the link is ONLINE, in OFF
no direction change is pending, and duty, residue and last N_meas are in their ranges (R48, R51, R69, R72). -/
def governorSafe (link : LinkState) (g : Governor) : Prop :=
  (driving g = false → g.speed = 0 ∧ g.duty = 0) ∧ (g.state = .run → link = .online)
    ∧ (g.state = .off → g.requested = g.running) ∧ g.duty ≤ 1000 ∧ g.residue ≤ 999 ∧ g.nMeas ≤ 400

/-- Both governors are safe. -/
def governorsSafe (s : State) : Prop := ∀ d : Drum, governorSafe s.ulp.link (s.governor d)

/-- The fields of a row lie each in its range, and are as many as the row has (R151). -/
def inRange : List FieldSpec → List Int → Bool
  | [], [] => true
  | f :: fs, v :: vs => decide (f.lo ≤ v ∧ v ≤ f.hi) && inRange fs vs
  | _, _ => false

/-- Every field of every row of a bank lies in its range (R151). -/
def bankInRange (b : Tables) : Prop :=
  ∀ (t : TableId) (row : Nat) (specs : List FieldSpec),
    rowSpecs t row = some specs → inRange specs (rowFields b t row) = true

/-- Every field of every table lies in its range, in both banks (R151). -/
def banksInRange (s : State) : Prop := bankInRange s.tst.active ∧ bankInRange s.tst.load

/-- Every active table passes its cross-row checks (R156). -/
def activePasses (s : State) : Prop := ∀ t : TableId, failingRow s.tst.active t = none

/-- No commanded speed is above the active N_max (R64). -/
def speedsWithinLimit (s : State) : Prop := ∀ d : Drum, (s.governor d).speed ≤ s.tst.active.drum.params.nMax

/-- The Slurry Return Unit is safe: the account lies within A_max and the level within 0 to 3, the duty is 0 outside
PRIME and RUN, each timer runs only in its state, and residues, setpoint and density are in their ranges
(R93, R94, R97, R98, R108, R109). -/
def slurrySafe (s : State) : Prop :=
  s.sru.account ≤ s.tst.active.slurry.ground.accountMax ∧ s.sru.level ≤ 3
    ∧ (¬(s.sru.pump = .prime ∨ s.sru.pump = .run) → s.sru.duty = 0)
    ∧ s.sru.duty ≤ 1000 ∧ s.sru.setpoint ≤ 1000 ∧ 1000 ≤ s.sru.supplyDensity ∧ s.sru.supplyDensity ≤ 1400
    ∧ (s.sru.primeDeadline.isSome = true ↔ s.sru.pump = .prime)
    ∧ (s.sru.dryDeadline.isSome = true → s.sru.pump = .run)
    ∧ (s.sru.refreshDeadline.isSome = s.sru.held) ∧ s.sru.residueR ≤ 9999 ∧ s.sru.residueC ≤ 999

/-- The link port is consistent: each deadline runs exactly in its link state, no frame is gathered in HUNT, the counts
are in their ranges, and a frame is in transmission exactly where the uplink state says so (section 9.1, R169 to R172,
R179, R184). -/
def linkSafe (s : State) : Prop :=
  (s.ulp.dwellDeadline.isSome = true ↔ s.ulp.link = .hunt) ∧ (s.ulp.linkDeadline.isSome = true ↔ s.ulp.link = .online)
    ∧ (s.ulp.relockDeadline.isSome = true ↔ s.ulp.link = .loss)
    ∧ (s.rpu.statusDeadline.isSome = true ↔ s.ulp.link ≠ .hunt)
    ∧ (s.ulp.link = .hunt → s.ulp.rx = .waitStart) ∧ s.ulp.lockRun ≤ 7 ∧ s.ulp.discards ≤ 7
    ∧ (s.ulp.link = .hunt → s.ulp.uplink = .silent ∨ s.ulp.uplink = .sending)
    ∧ (s.ulp.link ≠ .hunt → s.ulp.uplink ≠ .silent)
    ∧ (s.ulp.uplink = .sending → s.ulp.tx.isSome = true)
    ∧ (s.ulp.uplink = .idle ∨ s.ulp.uplink = .silent → s.ulp.tx = none)

/-- The access that a transaction serves, or none for a slot. -/
def servedAccess (tx : Transaction) : Option Access :=
  match tx.serving with
  | .access a => some a
  | .slot _ _ _ _ _ => none

/-- The access the bus is serving, or none. -/
def busAccess (b : BusState) : Option Access :=
  match b with
  | .request tx => servedAccess tx
  | .response tx _ => servedAccess tx
  | .idle => none
  | .quiet _ => none

/-- The queues keep their capacities: one event entry per kind and source with a count of 1 to 255, one telemetry record
per slot, at most 8 occupied answer places, an access the bus serves is the outstanding one, and there is one slot for
each counted row of the active Poll Table (R145, R147, R177, R180, R186). -/
def queuesSafe (s : State) : Prop :=
  (s.rpu.events.map (fun e => (e.kind, e.source))).Nodup ∧ (∀ e ∈ s.rpu.events, 1 ≤ e.count ∧ e.count ≤ 255)
    ∧ (s.ulp.telemetry.map (fun r => r.slot)).Nodup ∧ occupiedPlaces s ≤ answerPlaces
    ∧ (∀ a : Access, busAccess s.sbm.bus = some a → s.sbm.access = some a)
    ∧ s.sbm.slots.length = (countedRows s.tst.active.poll).length

/-- The Drift Log is well formed: at most 1,024 records, each with its position as index, START on the first and on no
other, depths strictly rising; it is empty exactly in NO_PANEL (R1, R17, R21, R25). -/
def logSafe (s : State) : Prop :=
  s.vtr.log.length ≤ logCapacity
    ∧ (∀ (i : Nat) (r : StationRecord), s.vtr.log[i]? = some r → r.index = i ∧ (r.flags.start = true ↔ i = 0))
    ∧ s.vtr.log.Pairwise (fun a b => a.depth < b.depth) ∧ (s.vtr.state = .noPanel ↔ s.vtr.log = [])

/-! ### Words in which results are stated -/

/-- One table of two banks is the same in both. -/
def sameTable (t : TableId) (a b : Tables) : Prop :=
  match t with
  | .drum => a.drum = b.drum
  | .poll => a.poll = b.poll
  | .mounting => a.mounting = b.mounting
  | .plan => a.plan = b.plan
  | .steering => a.steering = b.steering
  | .slurry => a.slurry = b.slurry
  | .link => a.link = b.link

/-- Every block but the port and the Report Unit is the same, and so are head time and the model's own fields. -/
def sameOutsideLink (s t : State) : Prop :=
  t.headTime = s.headTime ∧ t.vtr = s.vtr ∧ t.spl = s.spl ∧ t.governorL = s.governorL ∧ t.governorR = s.governorR
    ∧ t.nSet = s.nSet ∧ t.sru = s.sru ∧ t.pps = s.pps ∧ t.sbm = s.sbm ∧ t.tst = s.tst ∧ t.freeSeq = s.freeSeq
    ∧ t.pending = s.pending

/-- A request of an answered kind that arrives is executed: the link is not in HUNT, and an answer place is free
(R169, R175, R177). -/
def answerable (s : State) : Prop :=
  s.ulp.link ≠ .hunt ∧ s.ulp.answers.length + (if s.sbm.access.isSome then 1 else 0) < 8

/-- The port after a valid frame: the assembly waits for the next one and the discard count is 0 (R174, R175). -/
def portAfterFrame (u : Ulp) : Ulp := { u with rx := .waitStart, discards := 0 }

/-- The port after a valid frame that is answered at once: its answer stands at the end of the answer queue (R177). -/
def portAnswering (u : Ulp) (kind tag : Byte) (result : ResultCode) (payload : List Byte) : Ulp :=
  { portAfterFrame u with answers := u.answers ++ [⟨kind, tag, result, payload⟩] }

/-- An event queue after a post: the entry of the kind and source updated in place, or a new entry at the end (R186). -/
def Posted (now : HeadTime) (kind : EventKind) (source : EventSource) (value : Int) (before after : List EventEntry) :
    Prop :=
  ((∀ e ∈ before, ¬(e.kind = kind ∧ e.source = source)) ∧
      after = before ++ [⟨kind, source, value, now, now, 1⟩])
    ∨ ∃ (front back : List EventEntry) (e : EventEntry),
        before = front ++ e :: back ∧ (∀ x ∈ front, ¬(x.kind = kind ∧ x.source = source)) ∧ e.kind = kind
          ∧ e.source = source
          ∧ after = front ++ { e with value := value, last := now, count := min 255 (e.count + 1) } :: back

/-- A character of the downlink pair as the surface unit sends it: even parity, and a stop bit at its level (R168). -/
def goodChar (b : Byte) : LinkChar := { data := b, parity := decide (onesCount b % 2 = 1), stop := true }

/-- The bytes of a payload at a place, in a width. -/
def slice (p : List Byte) (i n : Nat) : List Byte := (p.drop i).take n

/-- The nearest integer to the quotient of `n` by `d`, halves away from zero (00_scope.md, Rounding). -/
def RoundedQuotient (n : Int) (d : Nat) (q : Int) : Prop :=
  (0 ≤ n → 2 * q * d ≤ 2 * n + d ∧ 2 * n + d < 2 * q * d + 2 * d)
    ∧ (n < 0 → 2 * n - d ≤ 2 * q * d ∧ 2 * q * d - 2 * d < 2 * n - d)

/-- A frame discarded: its latch set, the assembly waiting, the discard count one higher, and at 8 FRAME_ERRORS posted
and the count 0; nothing else changes (R174, R175). -/
def Discarded (s t : State) : Prop :=
  sameOutsideLink s t
    ∧ t.ulp =
        { s.ulp with
          rx := .waitStart
          discards := if s.ulp.discards + 1 < 8 then s.ulp.discards + 1 else 0
          summary := { s.ulp.summary with frameDiscarded := true } }
    ∧ t.rpu = { s.rpu with events := t.rpu.events }
    ∧ (s.ulp.discards + 1 < 8 → t.rpu.events = s.rpu.events)
    ∧ (8 ≤ s.ulp.discards + 1 → Posted s.headTime .frameErrors .link 8 s.rpu.events t.rpu.events)

/-- The bar that a plate keeps when it leaves its motion under a dwell of 0: the one that runs, unless it names the motion
just left, which is not barred (R121, log 17). -/
def barKept (p : Plate) : Option Bar :=
  if p.bar.map (fun b => b.motion) = some (if p.state = .extend then .extend else .retract) then none else p.bar

/-- A plate whose valve is on, stopped: HOLD (or the state named), no stroke timer, and the opposite motion barred for
the dwell, in place of a bar that ran; with a dwell of 0 no bar is set (R117, R121, log 17). -/
def Stopped (now : HeadTime) (dwell : Nat) (dest : PlateState) (p q : Plate) : Prop :=
  q.state = dest ∧ q.strokeDeadline = none ∧ q.position = p.position
    ∧ q.bar =
        (if dwell = 0 then barKept p
          else some ⟨if p.state = .extend then .retract else .extend, now + BitVec.ofNat 32 dwell⟩)

/-- The plates after an event that stops every moving plate and leaves the others (R127, R132). -/
def MovingStopped (s : State) (after : Quad Plate) : Prop :=
  ∀ id : PlateId,
    (moving (s.pps.plates.get id) = true →
        Stopped s.headTime s.tst.active.steering.params.reversalDwell .hold (s.pps.plates.get id) (after.get id)
          ∧ (after.get id).stuckLatch = (s.pps.plates.get id).stuckLatch)
      ∧ (moving (s.pps.plates.get id) = false → after.get id = s.pps.plates.get id)

/-- The blocks after the notices of an entry into LOSS or HUNT: the tracker without depth, running governors stopping
and permits of a running off-time cleared, moving plates stopped, the planner's outputs zero (R173). -/
def HeadNotified (s t : State) : Prop :=
  t.vtr =
      { s.vtr with
        depth := none
        candidate := none
        state := if s.vtr.state = .noPanel then .noPanel else .noDepth }
    ∧ (∀ d : Drum,
        ((s.governor d).state = .run → t.governor d = { s.governor d with state := .stopping })
          ∧ (∀ deadline, (s.governor d).state = .trip (.timing deadline) →
              t.governor d = { s.governor d with prot := { (s.governor d).prot with permit := false } })
          ∧ ((s.governor d).state ≠ .run → (∀ deadline, (s.governor d).state ≠ .trip (.timing deadline)) →
              t.governor d = s.governor d))
    ∧ MovingStopped s t.pps.plates ∧ t.pps.manualTargets = s.pps.manualTargets
    ∧ t.spl = { s.spl with deltaN := 0, targets := .all 0, lastErrors := none }
    ∧ t.headTime = s.headTime ∧ t.nSet = s.nSet ∧ t.sru = s.sru ∧ t.sbm = s.sbm ∧ t.tst = s.tst
    ∧ t.freeSeq = s.freeSeq ∧ t.pending = s.pending

/-- A motion a plate wants at a position, against a target and a deadband (R120). -/
def wants (position target deadband : Int) : Option Motion :=
  if position < target - deadband then some .extend
  else if target + deadband < position then some .retract
  else none

/-- The target a plate is driven to, with the planner's targets and the stored mode given; RETRACT drives to 0 (R119). -/
def targetOf (mode : Mode) (planner manual : Quad Nat) (id : PlateId) : Nat :=
  match mode with
  | .auto => planner.get id
  | .manual => manual.get id
  | .retract => 0

/-- A plate after a decision with a target: the table of R120, with the reversal of R121 and the stroke timer of R124. -/
def Decided (now : HeadTime) (t : SteeringParams) (target : Nat) (p q : Plate) : Prop :=
  (p.state = .stuck ∨ p.state = .nofb → q = p)
    ∧ (p.position = none →
        (p.state = .hold → q = p)
          ∧ (moving p = true → Stopped now t.reversalDwell .hold p q ∧ q.stuckLatch = p.stuckLatch))
    ∧ (∀ pos : Nat, p.position = some pos →
        (p.state = .hold →
            (wants pos target t.deadband = none → q = p)
              ∧ (∀ m : Motion, wants pos target t.deadband = some m →
                  (p.bar.map (fun b => b.motion) = some m → q = p)
                    ∧ (p.bar.map (fun b => b.motion) ≠ some m →
                        q =
                          { p with
                            state := if m = .extend then .extend else .retract
                            strokeDeadline := some (now + BitVec.ofNat 32 t.strokeTimeout) })))
          ∧ (moving p = true →
              (wants pos target t.deadband = some (if p.state = .extend then .extend else .retract) → q = p)
                ∧ (wants pos target t.deadband = none → Stopped now t.reversalDwell .hold p q ∧ q.stuckLatch = p.stuckLatch)
                ∧ (wants pos target t.deadband = some (if p.state = .extend then .retract else .extend) →
                    (t.reversalDwell ≠ 0 → Stopped now t.reversalDwell .hold p q ∧ q.stuckLatch = p.stuckLatch)
                      ∧ (t.reversalDwell = 0 →
                          q =
                            { p with
                              state := if p.state = .extend then .retract else .extend
                              strokeDeadline := some (now + BitVec.ofNat 32 t.strokeTimeout)
                              bar := barKept p }))))

/-- A plate after a decision toward the target its mode gives, which is made while the link is ONLINE (R119, R127). -/
def DecidedWhileOnline (s : State) (id : PlateId) (p q : Plate) : Prop :=
  (s.ulp.link ≠ .online → q = p)
    ∧ (s.ulp.link = .online →
        Decided s.headTime s.tst.active.steering.params (targetOf s.pps.mode s.spl.targets s.pps.manualTargets id) p q)

/-- A complete good sample of a counted slot of the active Poll Table arrives: the bus waits for it, no check fails, and
its slot and row are there (R135, R136, R141). -/
def SampleArrives (s : State) (chars : List BusChar) (num : Nat) (role : Role) (relayBad noRelay : Bool)
    (payload : List Byte) (x : Slot) (row : PollRow) : Prop :=
  ∃ (tx : Transaction) (deadline : HeadTime) (r : Response),
    s.sbm.bus = .response tx deadline ∧ tx.serving = .slot num role relayBad noRelay false
      ∧ gatherResponse chars = some r ∧ responseTags tx r = noTags ∧ r.payload = payload ∧ 1 ≤ num
      ∧ s.sbm.slots[num - 1]? = some x ∧ s.tst.active.poll.rows[num - 1]? = some row

/-- A complete good sample arrives for a slot of a replaced Poll Table: its role is the one fixed at its grant (R147). -/
def ReplacedSampleArrives (s : State) (chars : List BusChar) (role : Role) (payload : List Byte) : Prop :=
  ∃ (tx : Transaction) (deadline : HeadTime) (r : Response) (num : Nat) (relayBad noRelay : Bool),
    s.sbm.bus = .response tx deadline ∧ tx.serving = .slot num role relayBad noRelay true
      ∧ gatherResponse chars = some r ∧ responseTags tx r = noTags ∧ r.payload = payload

/-- A complete good sample comes to the consumer of a role: from a counted slot, together with the ALIVE notice when its
node was not ALIVE (`told`), or from a slot of a replaced Poll Table, without a notice. `posted` is the event queue the
consumer finds: with NODE_RESTORED of a node that was LOST (R138, R141, R147). -/
def SampleComes (s : State) (chars : List BusChar) (role : Role) (payload : List Byte) (told : Bool)
    (posted : List EventEntry) : Prop :=
  (∃ (num : Nat) (relayBad noRelay : Bool) (x : Slot) (row : PollRow),
      SampleArrives s chars num role relayBad noRelay payload x row ∧ (told = true ↔ x.node ≠ .alive)
        ∧ (x.node ≠ .lost → posted = s.rpu.events)
        ∧ (x.node = .lost →
            ∃ (tx : Transaction) (deadline : HeadTime), s.sbm.bus = .response tx deadline
              ∧ Posted s.headTime .nodeRestored (.slot num) (tx.address : Int) s.rpu.events posted))
    ∨ (told = false ∧ posted = s.rpu.events ∧ ReplacedSampleArrives s chars role payload)

/-- The measured speed of a sample against a direction: its speed limited to 400 where it is sensed in that direction,
else 0 (R55, R137). -/
def sensedSpeed (x : DrumSample) (along : Direction) : Nat :=
  if (x.direction = 0#8 ∧ along = .inward) ∨ (x.direction = 1#8 ∧ along = .outward) then min 400 x.speed else 0

/-- The next due time of a slot served now, and whether that was late (R144). -/
def dueAfter (now due : HeadTime) (period : Nat) : HeadTime × Bool :=
  if (due + BitVec.ofNat 32 period - now).toNat < 2 ^ 31 then (due + BitVec.ofNat 32 period, false) else (now, true)

/-- The bus master after a good response of a slot, before the arbiter grants again: the bus idle, the slot's failure
count 0, its node ALIVE, its due time set (R134, R138, R144). -/
def slotServedGood (s : State) (num : Nat) (x : Slot) (row : PollRow) : Sbm :=
  { s.sbm with
    bus := .idle
    slots := s.sbm.slots.set (num - 1) ⟨(dueAfter s.headTime x.due row.period).1, 0, .alive⟩ }

/-- The bus master after a failure of a slot, before the arbiter grants again: the bus idle, the failure counted up to
15, the node LOST at the lost limit, the due time set (R139, R144). -/
def slotServedBad (s : State) (num : Nat) (x : Slot) (row : PollRow) : Sbm :=
  { s.sbm with
    bus := .idle
    slots :=
      s.sbm.slots.set (num - 1)
        ⟨(dueAfter s.headTime x.due row.period).1, min 15 (x.failures + 1),
          if s.tst.active.poll.params.lostLimit ≤ min 15 (x.failures + 1) then .lost else x.node⟩ }

/-- The port after a slot transaction's telemetry record and overrun latch: the record replaces the pending one of its
slot, or joins the end; nothing is placed with NO_RELAY, with the switch OFF, or for a bad sample without RELAY_BAD
(R142, R144, R180). -/
def Relayed (s : State) (num : Nat) (role : Role) (relayBad noRelay : Bool) (tags : TagSet)
    (payload : Option (List Byte)) (before after : Ulp) : Prop :=
  after = { before with telemetry := after.telemetry }
    ∧ (noRelay = true ∨ (tags ≠ noTags ∧ relayBad = false) ∨ s.tst.active.link.telemetry = false →
        after.telemetry = before.telemetry)
    ∧ (noRelay = false → tags = noTags ∨ relayBad = true → s.tst.active.link.telemetry = true →
        ((∀ r ∈ before.telemetry, r.slot ≠ num)
            ∧ after.telemetry = before.telemetry ++ [⟨num, role, s.headTime, tags, payload⟩])
          ∨ ∃ (front back : List TelemetryRecord) (old : TelemetryRecord),
              before.telemetry = front ++ old :: back ∧ (∀ r ∈ front, r.slot ≠ num) ∧ old.slot = num
                ∧ after.telemetry = front ++ ⟨num, role, s.headTime, tags, payload⟩ :: back)

/-- The port with POLL_OVERRUN set when a slot was served late (R144). -/
def withOverrun (late : Bool) (u : Ulp) : Ulp :=
  { u with summary := { u.summary with pollOverrun := u.summary.pollOverrun || late } }

/-- The trip history of a unit after a trip: entries older than the window removed, now appended, and only the newest
as many as the trip limit kept (R79). -/
def tripHistory (now : HeadTime) (window limit : Nat) (h : List HeadTime) : List HeadTime :=
  let kept := h.filter (fun e => decide ((now - e).toNat ≤ window * 1000)) ++ [now]
  kept.drop (kept.length - limit)

/-- The planner after an evaluation whose errors are `e`: its outputs by the effective mode and the tracker's state
(R32, R39, R42). -/
def Evaluated (t : SteeringTable) (mode : EffectiveMode) (vtr : VtrState) (e : SteeringErrors) (p q : Spl) : Prop :=
  (mode = .auto → vtr = .advancing →
      q = { p with deltaN := differential t e.ex, targets := plateTargets t e.ey e.w, lastErrors := some e })
    ∧ (mode = .manual → q = { p with deltaN := p.manualDelta, targets := .all 0, lastErrors := none })
    ∧ (mode = .retract ∨ mode = .frozen ∨ (mode = .auto ∧ vtr ≠ .advancing) →
        q = { p with deltaN := 0, targets := .all 0, lastErrors := none })

/-- The plates after an evaluation that hands its target change: a decision for each under the new targets when they
changed and the effective mode is AUTO, and no change otherwise (R29, R122). -/
def Handed (s : State) (targets : Quad Nat) (after : Quad Plate) : Prop :=
  (effectiveMode s = .auto → targets ≠ s.spl.targets →
      ∀ id : PlateId,
        Decided s.headTime s.tst.active.steering.params (targets.get id) (s.pps.plates.get id) (after.get id))
    ∧ (effectiveMode s ≠ .auto ∨ targets = s.spl.targets → after = s.pps.plates)

/-- The bus master after its arbiter was asked with the bus idle: the outstanding access is granted first, then the due
slot whose due time is earliest, a tie going to the lowest number; with none the bus stays idle (R134, R143). -/
def Granted (s : State) (before after : Sbm) : Prop :=
  after = { before with bus := after.bus }
    ∧ (∀ a : Access, before.access = some a →
        after.bus
          = .request
              ⟨.access a, a.address, s.tst.active.poll.params.rate, s.tst.active.poll.params.turnaround,
                s.tst.active.poll.params.responseTimeout⟩)
    ∧ (before.access = none → (∀ x ∈ before.slots, reached x.due s.headTime = false) → after.bus = .idle)
    ∧ (before.access = none → ∀ (k : Nat) (x : Slot) (r : PollRow), before.slots[k]? = some x →
        (countedRows s.tst.active.poll)[k]? = some r → reached x.due s.headTime = true →
          (∀ (j : Nat) (y : Slot), before.slots[j]? = some y → reached y.due s.headTime = true →
              interval y.due s.headTime ≤ interval x.due s.headTime
                ∧ (interval y.due s.headTime = interval x.due s.headTime → k ≤ j)) →
            after.bus
              = .request
                  ⟨.slot (k + 1) r.role r.relayBad r.noRelay false, r.address, s.tst.active.poll.params.rate,
                    s.tst.active.poll.params.turnaround, s.tst.active.poll.params.responseTimeout⟩)

/-- The time since an earlier sample, at most one second; 0 when there was none (R57, R106). -/
def sinceLast (now : HeadTime) : Option HeadTime → Nat
  | none => 0
  | some before => min (now - before).toNat 1000

/-- The role of an inclinometer (8.6.2). -/
def inclinometerRole : Sensor → Role
  | .a => .inclA
  | .b => .inclB

/-- The commanded speed and its residue after the ramp of an update: moved toward the target by the whole part of rate
times time over 1,000, the rest kept, and never past the target (R63, R64). -/
def Ramped (rate dt target speed residue speed' residue' : Nat) : Prop :=
  (speed = target → speed' = speed ∧ residue' = 0)
    ∧ (speed < target →
        (target ≤ speed + (rate * dt + residue) / 1000 → speed' = target ∧ residue' = 0)
          ∧ (speed + (rate * dt + residue) / 1000 < target →
              speed' = speed + (rate * dt + residue) / 1000 ∧ residue' = (rate * dt + residue) % 1000))
    ∧ (target < speed →
        (speed ≤ target + (rate * dt + residue) / 1000 → speed' = target ∧ residue' = 0)
          ∧ (target + (rate * dt + residue) / 1000 < speed →
              speed' + (rate * dt + residue) / 1000 = speed ∧ residue' = (rate * dt + residue) % 1000))

/-- The trim integrator after the duty stage, from its value before: held while the valve is saturated in the sense of
the error, else moved by K_i times the error and limited (R68). -/
def trimAfter (t : DrumParams) (duty : Nat) (e i : Int) : Int :=
  if (duty = 1000 ∧ 0 < e) ∨ (duty = 0 ∧ e < 0) then i
  else max (-((t.trimLimit : Int) * 256)) (min ((t.trimLimit : Int) * 256) (i + t.ki * e))

/-- The duty of the duty stage: the feed-forward duty plus the trim, the integrator over 256 truncated toward zero,
limited to 0 to 1,000 (R67, R69). -/
def dutyOf (t : DrumTable) (d : Drum) (speed : Nat) (i : Int) : Nat :=
  (max 0 (min 1000 (feedForward t d speed + i.tdiv 256))).toNat

/-- A governor after an update that takes no trip, from `g` with the new N_meas already stored: ramp, direction change
or end of the stop at a standstill, then trim and duty (R57 to R69). -/
def Updated (now : HeadTime) (t : DrumTable) (d : Drum) (composed : Nat) (g h : Governor) : Prop :=
  ∃ speed residue : Nat,
    Ramped
        (if g.state = .run ∧ g.speed < composed ∧ g.requested = g.running then t.params.rampUp
          else if g.state = .run ∧ g.requested = g.running then t.params.rampDown
          else t.params.stopRate)
        (sinceLast now g.prevUpdate)
        (if g.state = .run ∧ g.requested = g.running then composed else 0) g.speed g.residue speed residue
      ∧ (speed = 0 → g.state = .stopping →
          h =
            { g with
              state := .off
              speed := 0
              residue := 0
              integrator := 0
              duty := 0
              running := g.requested
              prevUpdate := none })
      ∧ (speed = 0 → g.state = .run → g.requested ≠ g.running →
          h =
            { g with
              speed := 0
              residue := residue
              running := g.requested
              integrator := trimAfter t.params g.duty (0 - (g.nMeas : Int)) 0
              duty := dutyOf t d 0 (trimAfter t.params g.duty (0 - (g.nMeas : Int)) 0)
              prevUpdate := some now })
      ∧ (speed ≠ 0 ∨ (g.state = .run ∧ g.requested = g.running) →
          h =
            { g with
              speed := speed
              residue := residue
              integrator := trimAfter t.params g.duty ((speed : Int) - g.nMeas) g.integrator
              duty := dutyOf t d speed (trimAfter t.params g.duty ((speed : Int) - g.nMeas) g.integrator)
              prevUpdate := some now })

/-- A drum after a trip, from `g` with the new N_meas already stored and the event queue `before`: stopped, its history,
latch and permit updated, in LOCKOUT when the history holds as many entries as the trip limit and else in TRIP with its
off-time running, and the event posted (R77, R79 to R81). -/
def DrumTripped (s : State) (d : Drum) (pressure : Nat) (g h : Governor) (before events : List EventEntry) : Prop :=
  let p := s.tst.active.drum.params
  let history := tripHistory s.headTime p.tripWindow p.tripLimit g.prot.history
  h =
      { g with
        state :=
          if p.tripLimit ≤ history.length then .lockout
          else .trip (.timing (s.headTime + BitVec.ofNat 32 p.offTime))
        speed := 0
        duty := 0
        prot := ⟨history, true, decide (g.state = .run)⟩ }
    ∧ Posted s.headTime (if p.tripLimit ≤ history.length then .lockout else .trip) (.unit (.drum d)) pressure
        before events

/-- The pump after a trip with its cause code: stopped, its timers cancelled, its history and latch updated and its
permit held, in LOCKOUT or in TRIP, and the event posted; nothing else changes (R78 to R81). -/
def PumpTripped (s : State) (cause : Nat) (t : State) : Prop :=
  let p := s.tst.active.slurry.pump
  let history := tripHistory s.headTime p.tripWindow p.tripLimit s.sru.prot.history
  t =
      { s with
        sru :=
          { s.sru with
            pump :=
              if p.tripLimit ≤ history.length then .lockout
              else .trip (.timing (s.headTime + BitVec.ofNat 32 p.offTime))
            duty := 0
            primeDeadline := none
            dryDeadline := none
            prot := ⟨history, true, true⟩ }
        rpu := { s.rpu with events := t.rpu.events } }
    ∧ Posted s.headTime (if p.tripLimit ≤ history.length then .lockout else .trip) (.unit .pump) (cause : Int)
        s.rpu.events t.rpu.events

/-- Feed hold after a level stage that left the level at `level`: released below the hold level, made at or above it,
and otherwise as it was (R111, R113). -/
def HoldTested (s : State) (level : Nat) (held : Bool) (refresh : Option HeadTime) (frame : Option Nat) : Prop :=
  let l := s.tst.active.slurry.levels
  (s.sru.held = true → level < l.holdLevel → held = false ∧ refresh = none ∧ frame = some 0)
    ∧ (s.sru.held = false → l.holdLevel ≤ level →
        held = true ∧ refresh = some (s.headTime + BitVec.ofNat 32 (l.holdTime / 2)) ∧ frame = some l.holdTime)
    ∧ ((s.sru.held = true ↔ l.holdLevel ≤ level) →
        held = s.sru.held ∧ refresh = s.sru.refreshDeadline ∧ frame = s.ulp.feedHold)

/-- The dry deadline after the dry test of a good sample taken in RUN, or as the pump enters it (R102). -/
def DryTested (now : HeadTime) (t : SlurryPump) (flow : Nat) (suction : Int) (before after : Option HeadTime) : Prop :=
  (flow < t.qMin ∨ suction < t.suctionMin →
      (∀ deadline, before = some deadline → after = some deadline)
        ∧ (before = none → after = some (now + BitVec.ofNat 32 t.dryTime)))
    ∧ (t.qMin ≤ flow → t.suctionMin ≤ suction → after = none)

/-- An event of a kind and source with a value, posted now, waits in the queue. -/
def Waits (now : HeadTime) (kind : EventKind) (source : EventSource) (value : Int) (events : List EventEntry) : Prop :=
  ∃ e ∈ events, e.kind = kind ∧ e.source = source ∧ e.value = value ∧ e.last = now

/-- The entries of a kind and source are the same in two queues: none was posted. -/
def NonePosted (kind : EventKind) (source : EventSource) (before after : List EventEntry) : Prop :=
  ∀ e : EventEntry, e.kind = kind → e.source = source → (e ∈ before ↔ e ∈ after)

/-- Whether a depth value passes the tests of the tracker: in range, and no depth known, or within a step of it, or
within a step of a re-anchor candidate in range (R2, R4). -/
def depthTaken (s : State) (v : Nat) : Prop :=
  v ≤ 250000
    ∧ (s.vtr.depth = none
        ∨ (∃ d, s.vtr.depth = some d ∧ ((v : Int) - d).natAbs ≤ s.tst.active.mounting.params.maxDepthStep)
        ∨ ∃ c, s.vtr.candidate = some c ∧ c ≤ 250000
            ∧ ((v : Int) - c).natAbs ≤ s.tst.active.mounting.params.maxDepthStep)

/-- Item `i` of a list fails against the item before it. -/
def ItemFails {α : Type} (ordered : α → α → Prop) (rows : List α) (count i : Nat) : Prop :=
  1 ≤ i ∧ i < count ∧ ∃ a b : α, rows[i - 1]? = some a ∧ rows[i]? = some b ∧ ¬ordered a b

/-- Point `i` of a feed-forward curve fails: the first by a speed other than 0, a later one by its order (R161). -/
def PointFails (rows : List CurvePoint) (count i : Nat) : Prop :=
  (i = 0 ∧ 0 < count ∧ ∃ p : CurvePoint, rows[0]? = some p ∧ p.speed ≠ 0)
    ∨ ItemFails (fun a b => a.speed < b.speed ∧ a.duty ≤ b.duty) rows count i

/-- Band `i` of a section fails by its order (R164). -/
def BandFails (rows : List Band) (count i : Nat) : Prop :=
  ItemFails (fun a b => a.edge < b.edge ∧ a.output ≤ b.output) rows count i

/-- A row of a table's bank fails a cross-row check (R161 to R166). -/
def RowFails (b : Tables) (t : TableId) (row : Nat) : Prop :=
  match t with
  | .drum =>
    ∃ i : Nat, (row = 1 + i ∧ PointFails b.drum.curveL b.drum.params.nL i)
      ∨ (row = 9 + i ∧ PointFails b.drum.curveR b.drum.params.nR i)
  | .poll =>
    ∃ (i j : Nat) (r e : PollRow), row = 1 + i ∧ i < b.poll.params.slotCount ∧ j < i ∧ b.poll.rows[i]? = some r
      ∧ b.poll.rows[j]? = some e ∧ (e.address = r.address ∨ (r.role ≠ .aux ∧ e.role = r.role))
  | .plan => ∃ i : Nat, row = 1 + i ∧ ItemFails (fun a c => a.depth < c.depth) b.plan.rows b.plan.count i
  | .steering =>
    ∃ i : Nat, (row = 1 + i ∧ BandFails b.steering.bandsX b.steering.params.nX i)
      ∨ (row = 9 + i ∧ BandFails b.steering.bandsY b.steering.params.nY i)
      ∨ (row = 17 + i ∧ BandFails b.steering.bandsT b.steering.params.nT i)
  | .slurry =>
    row = 1 ∧ ¬(b.slurry.levels.up1 < b.slurry.levels.up2 ∧ b.slurry.levels.up2 < b.slurry.levels.up3
      ∧ b.slurry.levels.up3 ≤ b.slurry.ground.accountMax ∧ b.slurry.levels.dn1 < b.slurry.levels.up1
      ∧ b.slurry.levels.dn2 < b.slurry.levels.up2 ∧ b.slurry.levels.dn3 < b.slurry.levels.up3
      ∧ b.slurry.levels.dn1 < b.slurry.levels.dn2 ∧ b.slurry.levels.dn2 < b.slurry.levels.dn3
      ∧ b.slurry.levels.f1 ≤ b.slurry.levels.f0 ∧ b.slurry.levels.f2 ≤ b.slurry.levels.f1
      ∧ b.slurry.levels.f3 ≤ b.slurry.levels.f2 ∧ b.slurry.levels.noReturnFactor ≤ b.slurry.levels.f0)
  | .mounting => False
  | .link => False

/-- The codes of the downlink kinds (section 9.4). -/
def downlinkKinds : List Nat := [0x10, 0x20, 0x21, 0x22, 0x23, 0x30, 0x31, 0x32, 0x33, 0x34, 0x35, 0x3F]

/-- The fixed-length downlink kinds with their payload lengths (section 9.4). -/
def fixedLengths : List (Nat × Nat) :=
  [(0x10, 26), (0x20, 1), (0x22, 1), (0x30, 8), (0x31, 3), (0x32, 1), (0x33, 5), (0x34, 0), (0x3F, 0)]

/-- A check at the completion of a frame fails, for its length, kind, tag, payload and CRC bytes: the CRC, the kind, or
the length of the kind (R174). -/
def CompletionFails (len kind tag : Byte) (payload crc : List Byte) : Prop :=
  crc ≠ leBytes 2 (crc16 (len :: kind :: tag :: payload)).toNat ∨ kind.toNat ∉ downlinkKinds
    ∨ (∃ n : Nat, (kind.toNat, n) ∈ fixedLengths ∧ len.toNat ≠ n) ∨ (kind = 0x21#8 ∧ len.toNat < 2)
    ∨ (kind = 0x23#8 ∧ len.toNat < 3)

/-- The length a good response has: that of its role's SAMPLE, up to 16 for AUX, or 3 for a register (section 7.2). -/
def RightLength (x : Serving) (len : Nat) : Prop :=
  match x with
  | .slot _ .inclA _ _ _ => len = 11
  | .slot _ .inclB _ _ _ => len = 11
  | .slot _ .drumL _ _ _ => len = 8
  | .slot _ .drumR _ _ _ => len = 8
  | .slot _ .slurry _ _ _ => len = 9
  | .slot _ .flap _ _ _ => len = 9
  | .slot _ .aux _ _ _ => len ≤ 16
  | .access _ => len = 3

/-- The kind code of a request and of its response (section 7.2). -/
def kindOf (x : Serving) : Byte :=
  match x with
  | .slot _ _ _ _ _ => 1
  | .access a => if a.op = .read then 2 else 3

/-- A governor after CLEAR: history emptied and latch cleared; in TRIP WAITING and in LOCKOUT it enters OFF (R87). -/
def GovernorCleared (g h : Governor) : Prop :=
  (g.state = .lockout ∨ g.state = .trip .waiting →
      h =
        { g with
          state := .off
          speed := 0
          residue := 0
          integrator := 0
          duty := 0
          running := g.requested
          prevUpdate := none
          prot := { g.prot with history := [], latch := false } })
    ∧ (g.state ≠ .lockout → g.state ≠ .trip .waiting →
        h = { g with prot := { g.prot with history := [], latch := false } })

end Sys2Proof.Safety
end

