-- ==== Sys2Proof/Certificates/Slice0/Obligations.lean ====
section
/-! DEFINITION. The statements about the machine, for the provers. A result is stated for the state just before the
uplink arbiter is asked, `next (serveUplink t)`: every command asks it last. That the choice falls at the end of a command,
when its effects are all made, is the model's reading of "as soon as" in R179 (log 10, DEDUCED), and every statement of
that form rests on it. `serveUplink` chooses a frame only from IDLE; what it chooses and what it leaves is stated of its
own (UplinkSendsFirstSource). That a command waits in a queue and a step takes the front one is the model's (log 1). -/

open Sys2Proof Sys2Proof.Machine Sys2Proof.Safety

/-! ### The step, the clock and the reset -/

/-- The model's choice (log 1): a step takes the command at the front of the queue and runs it on the state with the
queue's rest. -/
def Obligations.StepRunsFrontCommand : Prop :=
  ∀ (c : Instr) (rest : List Instr) (s : State), step (s.setPending (c :: rest)) = exec c (s.setPending rest)

/-- On an empty queue a step lets one millisecond pass when no timer is due; when some are, exactly those join the
queue, in some order, and no time passes. The command of a timer that is not due changes nothing. The model's choices and
readings (log 2, log 3, log 4). -/
def Obligations.EmptyQueueStepFiresDueTimers : Prop :=
  (∀ s : State, s.pending = [] →
      ((∀ x ∈ timers s, x.1 = false) → step s = .next { s with headTime := s.headTime + 1 })
        ∧ ((∃ x ∈ timers s, x.1 = true) →
            ∃ q : List Instr, q.Perm (((timers s).filter (fun x => x.1)).map (fun x => x.2)) ∧ q ≠ []
              ∧ step s = .next { s with pending := q, freeSeq := s.freeSeq + 1 }))
    ∧ ∀ (c : Instr) (s : State), (false, c) ∈ timers s → exec c s = .next (serveUplink s)

/-- Every command answers a next state in every state, takes no time of its own, and leaves the waiting commands as they
are. That time passes only in steps on an empty queue (log 2), that commands wait in a queue (log 1), and that states no
run reaches have a total meaning (log 18) are the model's choices. -/
def Obligations.EveryCommandAnswersNextState : Prop :=
  ∀ (c : Instr) (s : State), ∃ t : State,
    exec c s = .next t ∧ t.pending = s.pending ∧ (c ≠ .hardwareReset → t.headTime = s.headTime)

/-- HARDWARE_RESET puts every block and table into its reset state, with every value as the chapters give it; the queue
and the free-value counter, the model's own, are kept (log 23). -/
def Obligations.HardwareResetGivesResetValues : Prop :=
  ∀ s : State, ∃ t : State,
    exec .hardwareReset s = .next t ∧ t.headTime = 0 ∧ t.nSet = 0
      ∧ t.vtr = ⟨.noPanel, none, none, 0, 0, [], ⟨0, 0, 0, 0⟩, ⟨0, 0, 0, 0⟩, false, true⟩
      ∧ t.spl = ⟨0, ⟨0, 0, 0, 0⟩, none, 0⟩
      ∧ (∀ d : Drum, t.governor d = ⟨.off, 0, 0, 0, 0, .inward, .inward, true, none, 0, ⟨[], false, false⟩⟩)
      ∧ t.sru = ⟨.off, 0, 0, true, none, none, 1000, none, 0, 0, 0, 0, false, none, ⟨[], false, false⟩⟩
      ∧ t.pps.mode = .retract ∧ t.pps.manualTargets = ⟨0, 0, 0, 0⟩
      ∧ (∀ p : PlateId, t.pps.plates.get p = ⟨.nofb, none, none, none, false⟩)
      ∧ t.sbm = ⟨.idle, [], none⟩
      ∧ t.ulp =
          ⟨.hunt, 0, 0, some 250, none, none, .waitStart, 0, [], [], none, false, .silent, none,
            ⟨false, false, false, false⟩⟩
      ∧ t.rpu = ⟨none, [], none⟩
      ∧ t.tst.load = t.tst.active
      ∧ rowFields t.tst.active .drum 0 = [0, 20, 40, 80, 3200, 2000, 3, 60, 0, 16, 150, 2, 2]
      ∧ (∀ row, 1 ≤ row → row ≤ 16 →
          rowFields t.tst.active .drum row = (if row = 1 ∨ row = 9 then [0, 0] else [400, 1000])
            ∧ rowFields t.tst.active .poll row = [(row : Int), 7, 1000, 0])
      ∧ rowFields t.tst.active .poll 0 = [2, 5, 20, 3, 0]
      ∧ rowFields t.tst.active .mounting 0 = [500, 300, 500, 2000, 50, 0]
      ∧ rowFields t.tst.active .mounting 1 = [0, 0, 0] ∧ rowFields t.tst.active .mounting 2 = [0, 0, 0]
      ∧ rowFields t.tst.active .plan 0 = [0]
      ∧ (∀ row, 1 ≤ row → row ≤ 32 → rowFields t.tst.active .plan row = [0, 0, 0, 0])
      ∧ rowFields t.tst.active .steering 0 = [0, 300, 300, 0, 0, 0, 20, 15000, 200]
      ∧ (∀ row, 1 ≤ row → row ≤ 24 → rowFields t.tst.active .steering row = [1, 0])
      ∧ rowFields t.tst.active .slurry 0 = [2650, 2800, 1200, 2000000]
      ∧ rowFields t.tst.active .slurry 1
          = [150000, 100000, 300000, 200000, 500000, 350000, 1000, 750, 500, 250, 2, 3000, 250]
      ∧ rowFields t.tst.active .slurry 2 = [0, 300, -40, 5000, 20000, 5000, 3, 120, 0]
      ∧ rowFields t.tst.active .link 0 = [500, 5000, 1000, 1]
      ∧ t.pending = s.pending ∧ t.freeSeq = s.freeSeq

/-! ### Frames -/

/-- The frame written for any downlink command that fits the downlink reads back as that command. -/
def Obligations.FrameDecodesToItsCommand : Prop :=
  ∀ i : Instr, i.wellFormed = true → frameOf i ≠ none →
    ∃ rest : List Byte, encodeFrame i = some (0xC3#8 :: rest) ∧ decodeFrame rest = some i

/-- The characters of a frame, received one by one in ONLINE or LOSS, do exactly what the frame's command does. That
SYNC_CHARACTER carries characters outside HUNT (log 6) and that a frame command stands for a whole frame (log 7) are the
model's choice and reading. -/
def Obligations.FrameCharactersRunTheFrame : Prop :=
  ∀ (i : Instr) (bytes : List Byte) (s : State), i.wellFormed = true → encodeFrame i = some bytes →
    s.ulp.link ≠ .hunt → s.ulp.rx = .waitStart → serveUplink s = s →
      Sys2Proof.core.run bytes.length (s.setPending (bytes.map (fun b => .syncCharacter (goodChar b))))
        = exec i (s.setPending [])

/-- In ONLINE and LOSS a discard is counted: a frame that fails a check, a gap while a frame is gathered, and, inside a
frame, a character in error, a length above 120, or a last character that completes a frame with a wrong CRC, an unknown
kind or a wrong length (R174, R175). Outside a frame a character that is no error-free start character changes nothing, and
neither does a gap. That SYNC_CHARACTER carries the characters is the model's choice (log 6); that a gap acts only inside a
frame is its reading (log 8). -/
def Obligations.DiscardedFrameIsCounted : Prop :=
  ∀ s : State, s.ulp.link ≠ .hunt →
    (∀ cause : DiscardCause, ∃ t, exec (.frameDiscard cause) s = .next (serveUplink t) ∧ Discarded s t)
      ∧ (∀ chars, s.ulp.rx = .gathering chars → ∃ t, exec .frameGapTimeout s = .next (serveUplink t) ∧ Discarded s t)
      ∧ (s.ulp.rx = .waitStart → exec .frameGapTimeout s = .next (serveUplink s))
      ∧ (∀ chars c, s.ulp.rx = .gathering chars → charError c = true →
          ∃ t, exec (.syncCharacter c) s = .next (serveUplink t) ∧ Discarded s t)
      ∧ (∀ c, s.ulp.rx = .gathering [] → charError c = false → 120 < c.data.toNat →
          ∃ t, exec (.syncCharacter c) s = .next (serveUplink t) ∧ Discarded s t)
      ∧ (∀ (len kind tag low : Byte) (payload : List Byte) (c : LinkChar),
          s.ulp.rx = .gathering (len :: kind :: tag :: (payload ++ [low])) → payload.length = len.toNat →
            len.toNat ≤ 120 → charError c = false → CompletionFails len kind tag payload [low, c.data] →
              ∃ t, exec (.syncCharacter c) s = .next (serveUplink t) ∧ Discarded s t)
      ∧ (∀ c, s.ulp.rx = .waitStart → (charError c = true ∨ c.data ≠ 0xC3#8) →
          exec (.syncCharacter c) s = .next (serveUplink s))

/-- A frame is not executed in HUNT, whatever it is; and a request of an answered kind is not executed when all 8 answer
places are occupied, which sets ANSWER_OVERFLOW. -/
def Obligations.RequestNotExecuted : Prop :=
  (∀ (i : Instr) (s : State), s.ulp.link = .hunt → (frameOf i ≠ none ∨ ∃ cause, i = .frameDiscard cause) →
      exec i s = .next s)
    ∧ ∀ (i : Instr) (kind tag : Byte) (payload : List Byte) (s : State),
        frameOf i = some (kind, tag, payload) → kind ≠ 0x10#8 → kind ≠ 0x34#8 → s.ulp.link ≠ .hunt →
          8 ≤ s.ulp.answers.length + (if s.sbm.access.isSome then 1 else 0) →
            exec i s
              = .next
                  (serveUplink
                    { s with
                      ulp :=
                        { portAfterFrame s.ulp with summary := { s.ulp.summary with answerOverflow := true } } })

/-! ### The link -/

/-- In HUNT an error-free 0x55 adds one to the lock run, and any other character sets it to 0; the eighth locks: ONLINE
at the candidate rate, the link and status deadlines set, the sync reply begun, and one decision pass under the stored
mode. At the end of a dwell the candidate moves to the next rate of the cycle, the lock run returns to 0, and a new
dwell of 250 ms starts. -/
def Obligations.HuntSearchesAndLocks : Prop :=
  ∀ (c : LinkChar) (s : State), s.ulp.link = .hunt →
    (¬(c.data = 0x55#8 ∧ charError c = false) →
        exec (.syncCharacter c) s = .next { s with ulp := { s.ulp with lockRun := 0 } })
      ∧ (c.data = 0x55#8 → charError c = false → s.ulp.lockRun < 7 →
          exec (.syncCharacter c) s = .next { s with ulp := { s.ulp with lockRun := s.ulp.lockRun + 1 } })
      ∧ (c.data = 0x55#8 → charError c = false → s.ulp.lockRun = 7 →
          ∃ t, exec (.syncCharacter c) s = .next t
            ∧ t.ulp =
                { s.ulp with
                  link := .online
                  lockRun := 0
                  dwellDeadline := none
                  linkDeadline := some (s.headTime + BitVec.ofNat 32 s.tst.active.link.linkTimeout)
                  uplink := .sync }
            ∧ t.rpu =
                { s.rpu with
                  statusDeadline := some (s.headTime + BitVec.ofNat 32 s.tst.active.link.statusPeriod) }
            ∧ (∀ id : PlateId,
                Decided s.headTime s.tst.active.steering.params
                  (targetOf s.pps.mode s.spl.targets s.pps.manualTargets id) (s.pps.plates.get id) (t.pps.plates.get id))
            ∧ t = { s with ulp := t.ulp, rpu := t.rpu, pps := { s.pps with plates := t.pps.plates } })
      ∧ (∀ deadline, s.ulp.dwellDeadline = some deadline → reached deadline s.headTime = true →
          exec .huntDwellExpiry s
            = .next
                { s with
                  ulp :=
                    { s.ulp with
                      rate := s.ulp.rate + 1
                      lockRun := 0
                      dwellDeadline := some (s.headTime + 250#32) } })

/-- When the link deadline is reached in ONLINE the link enters LOSS, the relock deadline is set, LINK_LOSS is posted and
the head is notified. When the relock deadline is reached in LOSS the link enters HUNT at the rate that was locked, a frame
being gathered is abandoned without a discard, the status deadline becomes none, the head is notified again and the stored
mode becomes RETRACT; the uplink is SILENT, but for a frame in transmission. That a sync reply under way is abandoned there
is the model's reading (log 11, DEDUCED). -/
def Obligations.LinkTimeoutsEnterLossAndHunt : Prop :=
  (∀ (s : State) (deadline : HeadTime), s.ulp.link = .online → s.ulp.linkDeadline = some deadline →
      reached deadline s.headTime = true →
        ∃ t, exec .linkTimeout s = .next (serveUplink t)
          ∧ t.ulp =
              { s.ulp with
                link := .loss
                linkDeadline := none
                relockDeadline := some (s.headTime + BitVec.ofNat 32 s.tst.active.link.relockTimeout) }
          ∧ Posted s.headTime .linkLoss .link (s.ulp.rate.val : Int) s.rpu.events t.rpu.events
          ∧ t.rpu = { s.rpu with events := t.rpu.events } ∧ t.pps.mode = s.pps.mode ∧ HeadNotified s t)
    ∧ ∀ (s : State) (deadline : HeadTime), s.ulp.link = .loss → s.ulp.relockDeadline = some deadline →
        reached deadline s.headTime = true →
          ∃ t, exec .relockTimeout s = .next t
            ∧ t.ulp =
                { s.ulp with
                  link := .hunt
                  relockDeadline := none
                  rx := .waitStart
                  lockRun := 0
                  dwellDeadline := some (s.headTime + 250#32)
                  uplink := if s.ulp.tx.isSome then .sending else .silent }
            ∧ t.rpu = { s.rpu with statusDeadline := none } ∧ t.pps.mode = .retract ∧ HeadNotified s t

/-- In ONLINE and LOSS a reached status deadline makes the STATUS slot pending and is set again; a STATUS REQUEST makes
the slot pending, gets no answer and leaves the deadline. -/
def Obligations.StatusIsMadePending : Prop :=
  ∀ s : State, s.ulp.link ≠ .hunt →
    (∀ deadline, s.rpu.statusDeadline = some deadline → reached deadline s.headTime = true →
        exec .statusDeadline s
          = .next
              (serveUplink
                { s with
                  ulp := { s.ulp with statusPending := true }
                  rpu :=
                    { s.rpu with
                      statusDeadline := some (s.headTime + BitVec.ofNat 32 s.tst.active.link.statusPeriod) } }))
      ∧ ∀ tag : Byte,
          exec (.statusRequest tag) s
            = .next (serveUplink { s with ulp := { portAfterFrame s.ulp with statusPending := true } })

/-! ### The Table Store -/

/-- TABLE OPEN of a valid id makes the load bank of that table a copy of its active bank, and is answered OK with the
id; the active bank, the other load banks and every owner are not touched. -/
def Obligations.TableOpenCopiesActiveBank : Prop :=
  ∀ (tag table : Byte) (id : TableId) (s : State), answerable s → tableIdOf table = some id →
    ∃ load : Tables, sameTable id load s.tst.active ∧ (∀ other, other ≠ id → sameTable other load s.tst.load)
      ∧ exec (.tableOpen tag table) s
          = .next
              (serveUplink
                { s with
                  tst := { s.tst with load := load }
                  ulp := portAnswering s.ulp 0x20#8 tag .ok [table] })

/-- TABLE WRITE of a row whose bytes are exactly its fields, each in its range, writes the whole row into the load bank
and no other row, and is answered OK with the id and the row; no owner and no active bank is touched. A TABLE READ of that
row of the load bank, taken next, is answered with the bytes that were written, whatever stood in the bank before. -/
def Obligations.WrittenRowIsStoredAndReadsBack : Prop :=
  ∀ (tag table row : Byte) (fields : List Byte) (id : TableId) (specs : List FieldSpec) (vs : List Int) (s : State),
    answerable s → banksInRange s → tableIdOf table = some id → rowSpecs id row.toNat = some specs →
      fields = writeFields specs vs → inRange specs vs = true →
        (∃ load : Tables,
            rowFields load id row.toNat = vs
              ∧ (∀ (other : TableId) (r : Nat), rowSpecs other r ≠ none → ¬(other = id ∧ r = row.toNat) →
                  rowFields load other r = rowFields s.tst.load other r)
              ∧ exec (.tableWrite tag table row fields) s
                  = .next
                      (serveUplink
                        { s with
                          tst := { s.tst with load := load }
                          ulp := portAnswering s.ulp 0x21#8 tag .ok [table, row] }))
          ∧ ∀ (tag' : Byte) (t : State), exec (.tableWrite tag table row fields) s = .next t → answerable t →
              exec (.tableRead tag' table 1#8 row []) t
                = .next
                    (serveUplink { t with ulp := portAnswering t.ulp 0x23#8 tag' .ok (table :: 1#8 :: row :: fields) })

/-- TABLE READ of a row of the table, from bank 0 or bank 1, is answered OK with the id, the bank, the row and the row's
fields as that bank holds them; any other bank, and a payload with more bytes, is answered BAD_VALUE. Nothing else
changes. -/
def Obligations.TableReadReturnsRow : Prop :=
  ∀ (tag table bank row : Byte) (extra : List Byte) (id : TableId) (specs : List FieldSpec) (s : State), answerable s →
    tableIdOf table = some id → rowSpecs id row.toNat = some specs →
      (bank = 0#8 ∨ bank = 1#8 →
          exec (.tableRead tag table bank row []) s
            = .next
                (serveUplink
                  { s with
                    ulp :=
                      portAnswering s.ulp 0x23#8 tag .ok
                        (table :: bank :: row
                          :: writeFields specs
                              (rowFields (if bank = 0#8 then s.tst.active else s.tst.load) id row.toNat)) }))
        ∧ (1 < bank.toNat ∨ extra ≠ [] →
            exec (.tableRead tag table bank row extra) s
              = .next (serveUplink { s with ulp := portAnswering s.ulp 0x23#8 tag .badValue [] }))

/-- A table request that fails a check changes neither bank and no owner, and its answer names the first check that
fails: BAD_TABLE, then BAD_ROW, then BAD_VALUE; for TABLE ACTIVATE, INVALID with the id and the lowest row that fails a
cross-row check, then LOCKED with the id for the Drum Table while a governor is not OFF. In a bank whose fields are in
range, the row named is the lowest that fails a cross-row check of its table, and none is named exactly when no row
fails. -/
def Obligations.TableRequestRefused : Prop :=
  (∀ (tag table bank row : Byte) (fields extra : List Byte) (s : State), answerable s →
      (tableIdOf table = none →
          exec (.tableOpen tag table) s
              = .next (serveUplink { s with ulp := portAnswering s.ulp 0x20#8 tag .badTable [] })
            ∧ exec (.tableWrite tag table row fields) s
              = .next (serveUplink { s with ulp := portAnswering s.ulp 0x21#8 tag .badTable [] })
            ∧ exec (.tableActivate tag table) s
              = .next (serveUplink { s with ulp := portAnswering s.ulp 0x22#8 tag .badTable [] })
            ∧ exec (.tableRead tag table bank row extra) s
              = .next (serveUplink { s with ulp := portAnswering s.ulp 0x23#8 tag .badTable [] }))
        ∧ ∀ id, tableIdOf table = some id →
            (rowSpecs id row.toNat = none →
                exec (.tableWrite tag table row fields) s
                    = .next (serveUplink { s with ulp := portAnswering s.ulp 0x21#8 tag .badRow [] })
                  ∧ exec (.tableRead tag table bank row extra) s
                    = .next (serveUplink { s with ulp := portAnswering s.ulp 0x23#8 tag .badRow [] }))
              ∧ (∀ specs, rowSpecs id row.toNat = some specs →
                  (∀ vs, inRange specs vs = true → writeFields specs vs ≠ fields) →
                    exec (.tableWrite tag table row fields) s
                      = .next (serveUplink { s with ulp := portAnswering s.ulp 0x21#8 tag .badValue [] }))
              ∧ (∀ failing, failingRow s.tst.load id = some failing →
                  exec (.tableActivate tag table) s
                    = .next
                        (serveUplink
                          { s with ulp := portAnswering s.ulp 0x22#8 tag .invalid [table, BitVec.ofNat 8 failing] }))
              ∧ (failingRow s.tst.load id = none → id = .drum →
                  s.governorL.state ≠ .off ∨ s.governorR.state ≠ .off →
                    exec (.tableActivate tag table) s
                      = .next (serveUplink { s with ulp := portAnswering s.ulp 0x22#8 tag .locked [table] })))
    ∧ ∀ (b : Tables) (id : TableId), bankInRange b →
        (failingRow b id = none ↔ ∀ row : Nat, ¬RowFails b id row)
          ∧ ∀ row : Nat, failingRow b id = some row ↔ RowFails b id row ∧ ∀ lower, lower < row → ¬RowFails b id lower

/-- TABLE ACTIVATE of a load bank that passes makes it the active bank and is answered OK with the id. The Drum Table
also empties both drums' trip histories and clears their latches; the Slurry Table limits the account to the new A_max
and forms the pump duty again in PRIME and RUN; the Mounting, Plan, Steering and Link Tables do nothing else. -/
def Obligations.TableActivateCopiesLoadBank : Prop :=
  ∀ (tag table : Byte) (id : TableId) (s : State), answerable s → tableIdOf table = some id → id ≠ .poll →
    failingRow s.tst.load id = none →
      (id = .drum → s.governorL.state = .off ∧ s.governorR.state = .off) →
        ∃ active : Tables, sameTable id active s.tst.load ∧ (∀ other, other ≠ id → sameTable other active s.tst.active)
          ∧ exec (.tableActivate tag table) s
              = .next
                  (serveUplink
                    { s with
                      tst := { s.tst with active := active }
                      governorL :=
                        if id = .drum then { s.governorL with prot := { s.governorL.prot with history := [], latch := false } }
                        else s.governorL
                      governorR :=
                        if id = .drum then { s.governorR with prot := { s.governorR.prot with history := [], latch := false } }
                        else s.governorR
                      sru :=
                        if id = .slurry then
                          { s.sru with
                            account := min s.sru.account s.tst.load.slurry.ground.accountMax
                            duty :=
                              if s.sru.pump = .prime ∨ s.sru.pump = .run then
                                min s.sru.setpoint s.tst.load.slurry.pump.maxDuty
                              else s.sru.duty }
                        else s.sru
                      ulp := portAnswering s.ulp 0x22#8 tag .ok [table] })

/-- TABLE ACTIVATE of the Poll Table gives every counted slot of the new table the node state UNKNOWN, a failure count of
0 and a due time of now, keeps the outstanding access, marks a slot transaction in flight so that its end changes no slot,
and makes the role-absent notices: a governor whose role is absent
and that was in RUN, STOPPING or TRIP enters NOFB, an absent SLURRY role cancels the dry timer, and with an absent FLAP
role every plate enters NOFB, a moving one with its valve turned off, and the stored mode and the manual targets stay. With
the bus idle the arbiter grants it: to a waiting access, else to slot 1; QUIET and an access in flight keep the bus. -/
def Obligations.PollActivationStartsSlotsAfresh : Prop :=
  ∀ (tag : Byte) (s : State), answerable s → failingRow s.tst.load .poll = none →
    ∃ t, exec (.tableActivate tag 2#8) s = .next (serveUplink t)
      ∧ t.tst = { s.tst with active := { s.tst.active with poll := s.tst.load.poll } }
      ∧ t.sbm.slots
          = (s.tst.load.poll.rows.take s.tst.load.poll.params.slotCount).map (fun _ => ⟨s.headTime, 0, .unknown⟩)
      ∧ t.sbm.access = s.sbm.access
      ∧ (∀ tx num role relayBad noRelay orphan, tx.serving = .slot num role relayBad noRelay orphan →
          (s.sbm.bus = .request tx →
              t.sbm.bus = .request { tx with serving := .slot num role relayBad noRelay true })
            ∧ ∀ deadline, s.sbm.bus = .response tx deadline →
                t.sbm.bus = .response { tx with serving := .slot num role relayBad noRelay true } deadline)
      ∧ (∀ d : Drum,
          ((∃ r ∈ countedRows s.tst.load.poll, r.role = drumRole d) → t.governor d = s.governor d)
            ∧ ((∀ r ∈ countedRows s.tst.load.poll, r.role ≠ drumRole d) →
                ((s.governor d).state = .off ∨ (s.governor d).state = .lockout ∨ (s.governor d).state = .nofb →
                    t.governor d = s.governor d)
                  ∧ (driving (s.governor d) = true ∨ (∃ p, (s.governor d).state = .trip p) →
                      t.governor d
                        = { s.governor d with
                            state := .nofb
                            speed := 0
                            residue := 0
                            integrator := 0
                            duty := 0
                            prevUpdate := none })))
      ∧ t.sru
          = (if (countedRows s.tst.load.poll).any (fun r => r.role = .slurry) then s.sru
              else { s.sru with dryDeadline := none })
      ∧ ((∃ r ∈ countedRows s.tst.load.poll, r.role = .flap) → t.pps = s.pps)
      ∧ ((∀ r ∈ countedRows s.tst.load.poll, r.role ≠ .flap) →
          t.pps.mode = s.pps.mode ∧ t.pps.manualTargets = s.pps.manualTargets
            ∧ ∀ id : PlateId,
                (t.pps.plates.get id).stuckLatch = (s.pps.plates.get id).stuckLatch
                  ∧ (moving (s.pps.plates.get id) = true →
                      Stopped s.headTime s.tst.active.steering.params.reversalDwell .nofb (s.pps.plates.get id)
                        (t.pps.plates.get id))
                  ∧ (moving (s.pps.plates.get id) = false →
                      t.pps.plates.get id = { s.pps.plates.get id with state := .nofb }))
      ∧ (s.sbm.bus = .idle → s.sbm.access = none → ∀ r, (countedRows s.tst.load.poll)[0]? = some r →
          t.sbm.bus
            = .request
                ⟨.slot 1 r.role r.relayBad r.noRelay false, r.address, s.tst.load.poll.params.rate,
                  s.tst.load.poll.params.turnaround, s.tst.load.poll.params.responseTimeout⟩)
      ∧ (s.sbm.bus = .idle → s.sbm.access = none → countedRows s.tst.load.poll = [] → t.sbm.bus = .idle)
      ∧ (s.sbm.bus = .idle → ∀ a, s.sbm.access = some a →
          t.sbm.bus
            = .request
                ⟨.access a, a.address, s.tst.load.poll.params.rate, s.tst.load.poll.params.turnaround,
                  s.tst.load.poll.params.responseTimeout⟩)
      ∧ (∀ deadline, s.sbm.bus = .quiet deadline → t.sbm.bus = s.sbm.bus)
      ∧ (∀ (tx : Transaction) (a : Access), tx.serving = .access a →
          (s.sbm.bus = .request tx → t.sbm.bus = s.sbm.bus)
            ∧ ∀ deadline, s.sbm.bus = .response tx deadline → t.sbm.bus = s.sbm.bus)
      ∧ t.ulp = portAnswering s.ulp 0x22#8 tag .ok [2#8] ∧ t.rpu = s.rpu ∧ t.vtr = s.vtr ∧ t.spl = s.spl
      ∧ t.nSet = s.nSet ∧ t.headTime = s.headTime ∧ t.freeSeq = s.freeSeq ∧ t.pending = s.pending

/-! ### Requests of the Report Unit and of the port -/

/-- PANEL START with D0 up to 250,000 and both offsets within ±10,000 opens a panel: the log holds station 0 alone, the
face stands at D0, the generation rises by one, the open accumulators are clear, LOG_FULL is armed, the state follows the
known depth, a readout ends, and the panel evaluation is made and hands its target change. Any other field is refused
BAD_VALUE and changes nothing else. -/
def Obligations.PanelStartOpensPanel : Prop :=
  ∀ (tag : Byte) (d0 : BitVec 32) (ox oy : BitVec 16) (s : State), answerable s →
    (¬(d0.toNat ≤ 250000 ∧ -10000 ≤ ox.toInt ∧ ox.toInt ≤ 10000 ∧ -10000 ≤ oy.toInt ∧ oy.toInt ≤ 10000) →
        exec (.panelStart tag d0 ox oy) s
          = .next (serveUplink { s with ulp := portAnswering s.ulp 0x30#8 tag .badValue [] }))
      ∧ (d0.toNat ≤ 250000 → -10000 ≤ ox.toInt → ox.toInt ≤ 10000 → -10000 ≤ oy.toInt → oy.toInt ≤ 10000 →
          ∃ t, exec (.panelStart tag d0 ox oy) s = .next (serveUplink t)
            ∧ t.vtr =
                { s.vtr with
                  log := [⟨0, d0.toNat, 0, 0, 0, ox.toInt * 200000, oy.toInt * 200000, 0,
                    ⟨true, false, false, false, false, false⟩⟩]
                  dFace := d0.toNat
                  generation := s.vtr.generation + 1
                  accA := ⟨0, 0, 0, 0⟩
                  accB := ⟨0, 0, 0, 0⟩
                  saturated := false
                  logFullArmed := true
                  state :=
                    match s.vtr.depth with
                    | none => .noDepth
                    | some d =>
                      if (d0.toNat : Int) - s.tst.active.mounting.params.backoff ≤ d then .advancing else .aboveFace }
            ∧ Evaluated s.tst.active.steering (effectiveMode s) t.vtr.state
                ⟨ox.toInt - (planTarget s.tst.active.plan d0.toNat).x, oy.toInt - (planTarget s.tst.active.plan d0.toNat).y,
                  0 - (planTarget s.tst.active.plan d0.toNat).twist⟩ s.spl t.spl
            ∧ Handed s t.spl.targets t.pps.plates
            ∧ t =
                { s with
                  vtr := t.vtr
                  spl := t.spl
                  pps := { s.pps with plates := t.pps.plates }
                  rpu := { s.rpu with readout := none }
                  ulp := portAnswering s.ulp 0x30#8 tag .ok [] })

/-- LOG READ: a count outside 1 to 64 is answered BAD_VALUE, then an active readout BUSY, then a first index at or past
the station count RANGE, each without payload and with nothing else changed; otherwise the readout becomes active with
the granted count, and the answer is OK with the granted count, the generation and the station count. -/
def Obligations.LogReadStartsReadout : Prop :=
  ∀ (tag : Byte) (first : BitVec 16) (count : Byte) (s : State), answerable s →
    (count.toNat = 0 ∨ 64 < count.toNat →
        exec (.logRead tag first count) s
          = .next (serveUplink { s with ulp := portAnswering s.ulp 0x31#8 tag .badValue [] }))
      ∧ (1 ≤ count.toNat → count.toNat ≤ 64 →
          (s.rpu.readout ≠ none →
              exec (.logRead tag first count) s
                = .next (serveUplink { s with ulp := portAnswering s.ulp 0x31#8 tag .busy [] }))
            ∧ (s.rpu.readout = none → s.vtr.log.length ≤ first.toNat →
                exec (.logRead tag first count) s
                  = .next (serveUplink { s with ulp := portAnswering s.ulp 0x31#8 tag .range [] }))
            ∧ (s.rpu.readout = none → first.toNat < s.vtr.log.length →
                exec (.logRead tag first count) s
                  = .next
                      (serveUplink
                        { s with
                          rpu :=
                            { s.rpu with
                              readout := some ⟨first.toNat, min count.toNat (s.vtr.log.length - first.toNat)⟩ }
                          ulp :=
                            portAnswering s.ulp 0x31#8 tag .ok
                              (leBytes 1 (min count.toNat (s.vtr.log.length - first.toNat))
                                ++ leBytes 2 s.vtr.generation.toNat ++ leBytes 2 s.vtr.log.length) })))

/-- CLEAR with a selector above 4 is answered BAD_VALUE and touches no unit. Selector 0 or 1 clears that drum, 2 the
pump, 3 the plates and 4 all of them, and the answer is OK: history and latch empty, a unit in TRIP WAITING or LOCKOUT
OFF; every STUCK latch clear, a STUCK plate in HOLD with a decision unless FROZEN. Nothing else changes. -/
def Obligations.ClearReleasesUnits : Prop :=
  ∀ (tag selector : Byte) (s : State), answerable s →
    (4 < selector.toNat →
        exec (.clear tag selector) s
          = .next (serveUplink { s with ulp := portAnswering s.ulp 0x32#8 tag .badValue [] }))
      ∧ (selector.toNat ≤ 4 →
          ∃ t, exec (.clear tag selector) s = .next (serveUplink t)
            ∧ (∀ d : Drum,
                (selector.toNat = (match d with | .left => 0 | .right => 1) ∨ selector.toNat = 4 →
                    GovernorCleared (s.governor d) (t.governor d))
                  ∧ (selector.toNat ≠ (match d with | .left => 0 | .right => 1) → selector.toNat ≠ 4 →
                      t.governor d = s.governor d))
            ∧ t.sru =
                (if selector.toNat = 2 ∨ selector.toNat = 4 then
                  if s.sru.pump = .lockout ∨ s.sru.pump = .trip .waiting then
                    { s.sru with
                      pump := .off
                      duty := 0
                      primeDeadline := none
                      dryDeadline := none
                      prot := { s.sru.prot with history := [], latch := false } }
                  else { s.sru with prot := { s.sru.prot with history := [], latch := false } }
                else s.sru)
            ∧ (selector.toNat ≤ 2 → t.pps = s.pps)
            ∧ (3 ≤ selector.toNat → ∀ id : PlateId,
                ((s.pps.plates.get id).state ≠ .stuck →
                    t.pps.plates.get id = { s.pps.plates.get id with stuckLatch := false })
                  ∧ ((s.pps.plates.get id).state = .stuck → s.ulp.link ≠ .online →
                      t.pps.plates.get id = { s.pps.plates.get id with state := .hold, stuckLatch := false })
                  ∧ ((s.pps.plates.get id).state = .stuck → s.ulp.link = .online →
                      Decided s.headTime s.tst.active.steering.params
                        (targetOf s.pps.mode s.spl.targets s.pps.manualTargets id)
                        { s.pps.plates.get id with state := .hold, stuckLatch := false } (t.pps.plates.get id)))
            ∧ t =
                { s with
                  governorL := t.governorL
                  governorR := t.governorR
                  sru := t.sru
                  pps := { s.pps with plates := t.pps.plates }
                  ulp := portAnswering s.ulp 0x32#8 tag .ok [] })

/-- NODE ACCESS with an address outside 1 to 31 or an operation that is neither READ nor WRITE is answered BAD_VALUE, and
with an access outstanding BUSY, and nothing else changes; otherwise it becomes the outstanding access, without an answer
yet, and is granted the bus at once when the bus is idle. -/
def Obligations.NodeAccessIsAccepted : Prop :=
  ∀ (tag address op register : Byte) (value : BitVec 16) (s : State), answerable s →
    (1 < op.toNat ∨ address.toNat = 0 ∨ 31 < address.toNat →
        exec (.nodeAccess tag address op register value) s
          = .next (serveUplink { s with ulp := portAnswering s.ulp 0x33#8 tag .badValue [] }))
      ∧ (op.toNat ≤ 1 → 1 ≤ address.toNat → address.toNat ≤ 31 →
          (s.sbm.access ≠ none →
              exec (.nodeAccess tag address op register value) s
                = .next (serveUplink { s with ulp := portAnswering s.ulp 0x33#8 tag .busy [] }))
            ∧ (s.sbm.access = none → ∀ a : Access,
                a = ⟨address.toNat, if op = 0#8 then .read else .write, register, value, tag⟩ →
                  exec (.nodeAccess tag address op register value) s
                    = .next
                        (serveUplink
                          { s with
                            sbm :=
                              { s.sbm with
                                access := some a
                                bus :=
                                  if s.sbm.bus = .idle then
                                    .request
                                      ⟨.access a, address.toNat, s.tst.active.poll.params.rate,
                                        s.tst.active.poll.params.turnaround, s.tst.active.poll.params.responseTimeout⟩
                                  else s.sbm.bus }
                            ulp := portAfterFrame s.ulp })))

/-- ECHO of at most 118 payload bytes is answered OK with the payload, byte for byte, and a longer one BAD_VALUE without
payload; no other block, no timer and no link state changes. With all answer places occupied it is refused. -/
def Obligations.EchoAnswersItsPayload : Prop :=
  ∀ (tag : Byte) (payload : List Byte) (s : State), s.ulp.link ≠ .hunt →
    (answerable s →
        (payload.length ≤ 118 →
            exec (.echo tag payload) s
              = .next (serveUplink { s with ulp := portAnswering s.ulp 0x35#8 tag .ok payload }))
          ∧ (118 < payload.length →
              exec (.echo tag payload) s
                = .next (serveUplink { s with ulp := portAnswering s.ulp 0x35#8 tag .badValue [] })))
      ∧ (¬answerable s →
          exec (.echo tag payload) s
            = .next
                (serveUplink
                  { s with
                    ulp := { portAfterFrame s.ulp with summary := { s.ulp.summary with answerOverflow := true } } }))

/-- HEAD RESET: the tracker loses its depth and open station and keeps its log, the planner's values are zero, every drum
not in LOCKOUT is OFF and the pump likewise, permits are cleared and enables counted as given, the positioner is in
RETRACT with no plate moving, the bus is in QUIET with fresh slots and no access, queues, slots and latches of the port
are empty, events and readout are gone, and the answer OK stands alone in the answer queue. The tables stay. -/
def Obligations.HeadResetResetsBlocks : Prop :=
  ∀ (tag : Byte) (s : State), answerable s →
    ∃ t, exec (.headReset tag) s = .next (serveUplink t)
      ∧ t.vtr =
          { s.vtr with
            depth := none
            candidate := none
            state := if s.vtr.state = .noPanel then .noPanel else .noDepth
            accA := ⟨0, 0, 0, 0⟩
            accB := ⟨0, 0, 0, 0⟩
            saturated := false }
      ∧ t.spl = ⟨0, ⟨0, 0, 0, 0⟩, none, 0⟩ ∧ t.nSet = 0
      ∧ (∀ d : Drum,
          t.governor d =
            if (s.governor d).state = .lockout then
              { s.governor d with lastEnable := true, prot := { (s.governor d).prot with permit := false } }
            else
              { s.governor d with
                state := .off
                speed := 0
                residue := 0
                integrator := 0
                duty := 0
                requested := (s.governor d).running
                lastEnable := true
                prevUpdate := none
                prot := { (s.governor d).prot with permit := false } })
      ∧ t.sru =
          { s.sru with
            pump := if s.sru.pump = .lockout then .lockout else .off
            duty := if s.sru.pump = .lockout then s.sru.duty else 0
            primeDeadline := if s.sru.pump = .lockout then s.sru.primeDeadline else none
            dryDeadline := if s.sru.pump = .lockout then s.sru.dryDeadline else none
            setpoint := 0
            lastEnable := true
            prevSample := none
            refreshDeadline := if s.sru.held then some s.headTime else none
            prot := { s.sru.prot with permit := false } }
      ∧ t.pps.mode = .retract ∧ t.pps.manualTargets = ⟨0, 0, 0, 0⟩
      ∧ (∀ id : PlateId, moving (t.pps.plates.get id) = false
          ∧ (t.pps.plates.get id).position = (s.pps.plates.get id).position
          ∧ (t.pps.plates.get id).stuckLatch = (s.pps.plates.get id).stuckLatch
          ∧ ((s.pps.plates.get id).state = .stuck ∨ (s.pps.plates.get id).state = .nofb →
              t.pps.plates.get id = s.pps.plates.get id))
      ∧ (effectiveMode s ≠ .auto ∨ s.spl.targets = ⟨0, 0, 0, 0⟩ → MovingStopped s t.pps.plates)
      ∧ t.sbm =
          ⟨.quiet (s.headTime + BitVec.ofNat 32 s.tst.active.poll.params.responseTimeout),
            (countedRows s.tst.active.poll).map (fun _ => ⟨s.headTime, 0, .unknown⟩), none⟩
      ∧ t.ulp =
          { s.ulp with
            linkDeadline :=
              if s.ulp.link = .online then some (s.headTime + BitVec.ofNat 32 s.tst.active.link.linkTimeout)
              else s.ulp.linkDeadline
            rx := .waitStart
            discards := 0
            answers := [⟨0x3F#8, tag, .ok, []⟩]
            telemetry := []
            feedHold := none
            statusPending := false
            summary := ⟨false, false, false, false⟩ }
      ∧ t.rpu = ⟨some (s.headTime + BitVec.ofNat 32 s.tst.active.link.statusPeriod), [], none⟩
      ∧ t.tst = s.tst ∧ t.headTime = s.headTime ∧ t.pending = s.pending

/-! ### CONTROL -/

/-- A CONTROL frame in ONLINE or LOSS leaves the link ONLINE with its deadline restarted; from LOSS it posts
LINK_RESTORED. Every field is taken by its owner, limited to its range, or left as it was where a code is not valid, and
CONTROL_CLAMPED is set exactly when a field was limited or not valid. A direction becomes the requested one; a depth that
passes its tests becomes the depth, and any other the re-anchor candidate. -/
def Obligations.ControlTakesFields : Prop :=
  ∀ (tag : Byte) (f : ControlFields) (s : State), s.ulp.link ≠ .hunt →
    ∃ t, exec (.control tag f) s = .next (serveUplink t)
      ∧ t.ulp =
          { portAfterFrame s.ulp with
            link := .online
            linkDeadline := some (s.headTime + BitVec.ofNat 32 s.tst.active.link.linkTimeout)
            relockDeadline := if s.ulp.link = .loss then none else s.ulp.relockDeadline
            feedHold := t.ulp.feedHold
            summary :=
              { s.ulp.summary with
                controlClamped :=
                  s.ulp.summary.controlClamped
                    || decide
                        (400 < f.nSet.toNat ∨ 1 < f.directionL.toNat ∨ 1 < f.directionR.toNat ∨ 1 < f.enableL.toNat
                          ∨ 1 < f.enableR.toNat ∨ 1 < f.pumpEnable.toNat ∨ 1000 < f.pumpSetpoint.toNat
                          ∨ f.supplyDensity.toNat < 1000 ∨ 1400 < f.supplyDensity.toNat ∨ 2 < f.mode.toNat
                          ∨ 1000 < f.manualP1.toNat ∨ 1000 < f.manualP2.toNat ∨ 1000 < f.manualP3.toNat
                          ∨ 1000 < f.manualP4.toNat ∨ f.manualDelta.toInt < -100 ∨ 100 < f.manualDelta.toInt) } }
      ∧ (s.ulp.link = .loss → Waits s.headTime .linkRestored .link (s.ulp.rate.val : Int) t.rpu.events)
      ∧ t.nSet = min 400 f.nSet.toNat
      ∧ t.sru.setpoint = min 1000 f.pumpSetpoint.toNat
      ∧ t.sru.supplyDensity = max 1000 (min 1400 f.supplyDensity.toNat)
      ∧ t.sru.lastEnable = decide (f.pumpEnable = 1#8)
      ∧ t.governorL.lastEnable = decide (f.enableL = 1#8) ∧ t.governorR.lastEnable = decide (f.enableR = 1#8)
      ∧ t.pps.mode =
          (if f.mode = 0#8 then .retract
            else if f.mode = 1#8 then .auto
            else if f.mode = 2#8 then .manual
            else s.pps.mode)
      ∧ t.pps.manualTargets =
          ⟨min 1000 f.manualP1.toNat, min 1000 f.manualP2.toNat, min 1000 f.manualP3.toNat, min 1000 f.manualP4.toNat⟩
      ∧ t.spl.manualDelta = max (-100) (min 100 f.manualDelta.toInt)
      ∧ (∀ (d : Drum) (v : Byte), v = (match d with | .left => f.directionL | .right => f.directionR) →
          (t.governor d).requested
            = (if v = 0#8 then .inward else if v = 1#8 then .outward else (s.governor d).requested))
      ∧ (depthTaken s f.depth.toNat → t.vtr.depth = some f.depth.toNat ∧ t.vtr.candidate = none)
      ∧ (¬depthTaken s f.depth.toNat → t.vtr.depth = s.vtr.depth ∧ t.vtr.candidate = some f.depth.toNat)
      ∧ t.tst = s.tst ∧ t.sbm = s.sbm ∧ t.headTime = s.headTime ∧ t.freeSeq = s.freeSeq ∧ t.pending = s.pending
      ∧ t.rpu = { s.rpu with events := t.rpu.events }

/-- The direction and the enable of a CONTROL frame, at each drum: the requested direction follows a valid code and, in
OFF, the running direction with it; an enable of 1 after one that was not 1 starts a drum in OFF whose node is ALIVE; any
other enable takes RUN to STOPPING and, while an off-time runs, withdraws the restart permit. -/
def Obligations.ControlStartsAndStopsDrums : Prop :=
  ∀ (tag : Byte) (f : ControlFields) (d : Drum) (direction enable : Byte) (s : State), s.ulp.link ≠ .hunt →
    direction = (match d with | .left => f.directionL | .right => f.directionR) →
      enable = (match d with | .left => f.enableL | .right => f.enableR) →
        ∀ g : Governor,
          g =
              { s.governor d with
                requested :=
                  if direction = 0#8 then .inward
                  else if direction = 1#8 then .outward
                  else (s.governor d).requested
                running :=
                  if (s.governor d).state = .off ∧ direction = 0#8 then .inward
                  else if (s.governor d).state = .off ∧ direction = 1#8 then .outward
                  else (s.governor d).running
                lastEnable := decide (enable = 1#8) } →
            ∃ t, exec (.control tag f) s = .next (serveUplink t)
              ∧ (enable = 1#8 → (s.governor d).lastEnable = false → (s.governor d).state = .off →
                  roleAlive (drumRole d) s = true →
                    t.governor d
                      = { g with state := .run, speed := 0, residue := 0, integrator := 0, prevUpdate := none })
              ∧ (enable = 1#8 →
                  (s.governor d).lastEnable = true ∨ (s.governor d).state ≠ .off
                      ∨ roleAlive (drumRole d) s = false →
                    t.governor d = g)
              ∧ (enable ≠ 1#8 →
                  ((s.governor d).state = .run → t.governor d = { g with state := .stopping })
                    ∧ (∀ deadline, (s.governor d).state = .trip (.timing deadline) →
                        t.governor d = { g with prot := { g.prot with permit := false } })
                    ∧ ((s.governor d).state ≠ .run → (∀ deadline, (s.governor d).state ≠ .trip (.timing deadline)) →
                        t.governor d = g))

/-- The pump enable of a CONTROL frame: 1 after one that was not 1 takes the pump from OFF to PRIME with the prime timer;
any other value stops it from PRIME or RUN and, while an off-time runs, withdraws the restart permit. The duty in PRIME
and RUN is the lesser of the setpoint and the maximum duty. -/
def Obligations.ControlStartsAndStopsPump : Prop :=
  ∀ (tag : Byte) (f : ControlFields) (s : State), s.ulp.link ≠ .hunt →
    ∃ t, exec (.control tag f) s = .next (serveUplink t)
      ∧ t.sru.prevSample = s.sru.prevSample ∧ t.sru.residueR = s.sru.residueR
      ∧ t.sru.prot.history = s.sru.prot.history ∧ t.sru.prot.latch = s.sru.prot.latch
      ∧ (f.pumpEnable = 1#8 → s.sru.lastEnable = false → s.sru.pump = .off →
          t.sru.pump = .prime
            ∧ t.sru.duty = min (min 1000 f.pumpSetpoint.toNat) s.tst.active.slurry.pump.maxDuty
            ∧ t.sru.primeDeadline = some (s.headTime + BitVec.ofNat 32 s.tst.active.slurry.pump.primeTime)
            ∧ t.sru.dryDeadline = none ∧ t.sru.prot.permit = s.sru.prot.permit)
      ∧ (f.pumpEnable = 1#8 → s.sru.lastEnable = true ∨ s.sru.pump ≠ .off →
          t.sru.pump = s.sru.pump
            ∧ t.sru.duty
                = (if s.sru.pump = .prime ∨ s.sru.pump = .run then
                    min (min 1000 f.pumpSetpoint.toNat) s.tst.active.slurry.pump.maxDuty
                  else s.sru.duty)
            ∧ t.sru.primeDeadline = s.sru.primeDeadline ∧ t.sru.dryDeadline = s.sru.dryDeadline
            ∧ t.sru.prot.permit = s.sru.prot.permit)
      ∧ (f.pumpEnable ≠ 1#8 →
          (s.sru.pump = .prime ∨ s.sru.pump = .run →
              t.sru.pump = .off ∧ t.sru.duty = 0 ∧ t.sru.primeDeadline = none ∧ t.sru.dryDeadline = none
                ∧ t.sru.prot.permit = s.sru.prot.permit)
            ∧ (s.sru.pump ≠ .prime → s.sru.pump ≠ .run →
                t.sru.pump = s.sru.pump ∧ t.sru.duty = s.sru.duty ∧ t.sru.primeDeadline = s.sru.primeDeadline
                  ∧ t.sru.dryDeadline = s.sru.dryDeadline
                  ∧ t.sru.prot.permit
                      = (if ∃ deadline, s.sru.pump = .trip (.timing deadline) then false else s.sru.prot.permit)))

/-- The depth of a CONTROL frame in ONLINE or LOSS: one that fails the tests becomes the re-anchor candidate and posts
DEPTH_JUMP; one that passes becomes the depth, and in an open panel gives ADVANCING or ABOVE_FACE by the backoff. At or
above the face nothing else of the tracker changes, and the account, the level and the feed hold stay. In LOSS the return to
ONLINE has posted LINK_RESTORED before. -/
def Obligations.ControlTakesDepth : Prop :=
  ∀ (tag : Byte) (f : ControlFields) (posted : List EventEntry) (s : State), s.ulp.link ≠ .hunt →
    (s.ulp.link = .online → posted = s.rpu.events) →
      (s.ulp.link = .loss →
          Posted s.headTime .linkRestored .link (s.ulp.rate.val : Int) s.rpu.events posted) →
        (¬depthTaken s f.depth.toNat →
            ∃ t, exec (.control tag f) s = .next (serveUplink t)
              ∧ t.vtr = { s.vtr with candidate := some f.depth.toNat }
              ∧ Posted s.headTime .depthJump .vtr (f.depth.toNat : Int) posted t.rpu.events
              ∧ t.sru.account = s.sru.account ∧ t.sru.level = s.sru.level ∧ t.ulp.feedHold = s.ulp.feedHold)
          ∧ (depthTaken s f.depth.toNat → s.vtr.state = .noPanel ∨ f.depth.toNat ≤ s.vtr.dFace →
              ∃ t, exec (.control tag f) s = .next (serveUplink t)
                ∧ t.vtr =
                    { s.vtr with
                      depth := some f.depth.toNat
                      candidate := none
                      state :=
                        if s.vtr.state = .noPanel then .noPanel
                        else if (s.vtr.dFace : Int) - s.tst.active.mounting.params.backoff ≤ f.depth.toNat then .advancing
                        else .aboveFace }
                ∧ t.rpu.events = posted ∧ t.sru.account = s.sru.account ∧ t.sru.level = s.sru.level
                ∧ t.ulp.feedHold = s.ulp.feedHold)

/-- A depth below the face of an open panel advances the face: the ground cut on the way is added to the solids account,
the load level and the feed hold follow it, and a station closes when the depth has reached the last station's depth plus
the station interval, but for a full log, where LOG_FULL is posted once in a panel. -/
def Obligations.ControlAdvancesFace : Prop :=
  ∀ (tag : Byte) (f : ControlFields) (r : StationRecord) (cut : Nat) (s : State), s.ulp.link ≠ .hunt →
    depthTaken s f.depth.toNat → s.vtr.state ≠ .noPanel → s.vtr.dFace < f.depth.toNat →
      s.vtr.log.getLast? = some r →
        cut =
            (f.depth.toNat - s.vtr.dFace) * s.tst.active.slurry.ground.panelLength
                * s.tst.active.slurry.ground.panelWidth
              + s.sru.residueC →
          ∃ t, exec (.control tag f) s = .next (serveUplink t)
            ∧ t.vtr.dFace = f.depth.toNat ∧ t.vtr.depth = some f.depth.toNat ∧ t.vtr.candidate = none
            ∧ t.vtr.state = .advancing ∧ t.vtr.generation = s.vtr.generation
            ∧ t.sru.account = min (s.sru.account + cut / 1000) s.tst.active.slurry.ground.accountMax
            ∧ t.sru.residueC = cut % 1000
            ∧ t.sru.level = levelAfter s.tst.active.slurry.levels t.sru.account s.sru.level
            ∧ (t.sru.level ≠ s.sru.level → Waits s.headTime .level .sru (t.sru.level : Int) t.rpu.events)
            ∧ (t.sru.level = s.sru.level → NonePosted .level .sru s.rpu.events t.rpu.events)
            ∧ HoldTested s t.sru.level t.sru.held t.sru.refreshDeadline t.ulp.feedHold
            ∧ (f.depth.toNat < r.depth + s.tst.active.mounting.params.stationInterval ∨ 1024 ≤ s.vtr.log.length →
                t.vtr.log = s.vtr.log ∧ t.vtr.accA = s.vtr.accA ∧ t.vtr.accB = s.vtr.accB
                  ∧ t.vtr.saturated = s.vtr.saturated)
            ∧ (r.depth + s.tst.active.mounting.params.stationInterval ≤ f.depth.toNat → 1024 ≤ s.vtr.log.length →
                t.vtr.logFullArmed = false
                  ∧ (s.vtr.logFullArmed = true →
                      Waits s.headTime .logFull .vtr (f.depth.toNat : Int) t.rpu.events)
                  ∧ (s.vtr.logFullArmed = false → NonePosted .logFull .vtr s.rpu.events t.rpu.events))

/-- A station that closes appends one record: its inclinations are the votes on the open accumulators, its integrated
sums those of the last record plus the segment, the first segment taking the new inclination at both ends; the open
accumulators become empty. INCL_DISAGREE carries the last axis whose sensors disagree, and TOLERANCE each axis whose
offset lies further from the plan than its limit. -/
def Obligations.StationCloseAppendsRecord : Prop :=
  ∀ (tag : Byte) (f : ControlFields) (r : StationRecord) (m : Axis → Int) (s : State), s.ulp.link ≠ .hunt →
    depthTaken s f.depth.toNat → s.vtr.state ≠ .noPanel → s.vtr.dFace < f.depth.toNat →
      s.vtr.log.getLast? = some r → r.depth + s.tst.active.mounting.params.stationInterval ≤ f.depth.toNat →
        s.vtr.log.length < 1024 → (∀ axis, m axis = vote s.tst.active.mounting.params s.vtr axis) →
          ∀ sX sY : Int,
            sX = r.sX + ((if r.index = 0 then m .x else r.mX) + m .x) * ((f.depth.toNat : Int) - r.depth) →
              sY = r.sY + ((if r.index = 0 then m .y else r.mY) + m .y) * ((f.depth.toNat : Int) - r.depth) →
                ∃ t, exec (.control tag f) s = .next (serveUplink t)
                  ∧ t.vtr.log
                      = s.vtr.log
                          ++ [⟨s.vtr.log.length, f.depth.toNat, m .x, m .y, m .twist, sX, sY,
                            min 65535 (s.vtr.accA.count + s.vtr.accB.count),
                            { start := false
                              held := decide (s.vtr.accA.count = 0 ∧ s.vtr.accB.count = 0)
                              single :=
                                decide
                                  ((s.vtr.accA.count = 0 ∧ s.vtr.accB.count ≠ 0)
                                    ∨ (s.vtr.accA.count ≠ 0 ∧ s.vtr.accB.count = 0))
                              disagree :=
                                disagrees s.tst.active.mounting.params s.vtr .x
                                  || disagrees s.tst.active.mounting.params s.vtr .y
                                  || disagrees s.tst.active.mounting.params s.vtr .twist
                              saturated := s.vtr.saturated
                              long := decide (r.depth + 2 * s.tst.active.mounting.params.stationInterval ≤ f.depth.toNat) }⟩]
                  ∧ t.vtr.accA = ⟨0, 0, 0, 0⟩ ∧ t.vtr.accB = ⟨0, 0, 0, 0⟩ ∧ t.vtr.saturated = false
                  ∧ t.vtr.logFullArmed = s.vtr.logFullArmed
                  ∧ (∀ axis, disagrees s.tst.active.mounting.params s.vtr axis = true →
                      (∀ later, axisCode axis < axisCode later →
                          disagrees s.tst.active.mounting.params s.vtr later = false) →
                        Waits s.headTime .inclDisagree .vtr (axisCode axis : Int) t.rpu.events)
                  ∧ ((∀ axis, disagrees s.tst.active.mounting.params s.vtr axis = false) →
                      NonePosted .inclDisagree .vtr s.rpu.events t.rpu.events)
                  ∧ ∀ ex ey : Int, RoundedQuotient sX 200000 (ex + (planTarget s.tst.active.plan f.depth.toNat).x) →
                      RoundedQuotient sY 200000 (ey + (planTarget s.tst.active.plan f.depth.toNat).y) →
                        (s.tst.active.steering.params.toleranceX < ex.natAbs →
                            Waits s.headTime .tolerance .axisX ex t.rpu.events)
                          ∧ (ex.natAbs ≤ s.tst.active.steering.params.toleranceX →
                              NonePosted .tolerance .axisX s.rpu.events t.rpu.events)
                          ∧ (s.tst.active.steering.params.toleranceY < ey.natAbs →
                              Waits s.headTime .tolerance .axisY ey t.rpu.events)
                          ∧ (ey.natAbs ≤ s.tst.active.steering.params.toleranceY →
                              NonePosted .tolerance .axisY s.rpu.events t.rpu.events)

/-- After the fields of a CONTROL frame the planner evaluates on the values they left, and then every plate has one
decision toward the target its mode gives. -/
def Obligations.ControlEvaluatesAndDecides : Prop :=
  ∀ (tag : Byte) (f : ControlFields) (s : State), s.ulp.link ≠ .hunt →
    ∃ t, exec (.control tag f) s = .next (serveUplink t)
      ∧ Evaluated s.tst.active.steering
          (match t.pps.mode with
            | .retract => .retract
            | .auto => .auto
            | .manual => .manual)
          t.vtr.state (steeringErrors s.tst.active t.vtr)
          { s.spl with manualDelta := max (-100) (min 100 f.manualDelta.toInt) } t.spl
      ∧ ∀ id : PlateId,
          Decided s.headTime s.tst.active.steering.params (targetOf t.pps.mode t.spl.targets t.pps.manualTargets id)
            (s.pps.plates.get id) (t.pps.plates.get id)

/-! ### The sensor bus -/

/-- The bus: SLOT_DUE of a due slot and QUIET_END ask the arbiter, which grants an idle bus to the outstanding access and
else to the earliest due slot; on a bus in use SLOT_DUE changes nothing. PAIR_RELEASE starts the response deadline. -/
def Obligations.BusIsGrantedAndReleased : Prop :=
  ∀ s : State,
    (∀ (num : Nat) (x : Slot), 1 ≤ num → s.sbm.slots[num - 1]? = some x → reached x.due s.headTime = true →
        (s.sbm.bus = .idle →
            ∃ b, exec (.slotDue num) s = .next (serveUplink { s with sbm := b }) ∧ Granted s s.sbm b)
          ∧ (s.sbm.bus ≠ .idle → exec (.slotDue num) s = .next (serveUplink s)))
      ∧ (∀ deadline, s.sbm.bus = .quiet deadline → reached deadline s.headTime = true →
          ∃ b, exec .quietEnd s = .next (serveUplink { s with sbm := b })
            ∧ Granted s { s.sbm with bus := .idle } b)
      ∧ (∀ tx, s.sbm.bus = .request tx →
          exec .pairRelease s
            = .next
                (serveUplink
                  { s with
                    sbm :=
                      { s.sbm with bus := .response tx (s.headTime + BitVec.ofNat 32 tx.responseTimeout) } }))

/-- A good response of a counted slot makes its node ALIVE with failure count 0, sets its due time and the overrun latch
when it was late, places its telemetry record, frees the bus for the arbiter, and posts NODE_RESTORED when the node was
LOST. A sample of role AUX does nothing else. A good response to a slot of a replaced Poll Table changes no slot and no
latch and posts no node event; its record is placed, and the bus is freed. What the consumer of the role does with the
sample is stated for each role. -/
def Obligations.GoodResponseServesItsSlot : Prop :=
  (∀ (s : State) (chars : List BusChar) (num : Nat) (role : Role) (relayBad noRelay : Bool) (payload : List Byte)
      (x : Slot) (row : PollRow), SampleArrives s chars num role relayBad noRelay payload x row →
        ∃ t, exec (.responseComplete chars) s = .next (serveUplink t)
          ∧ Granted s (slotServedGood s num x row) t.sbm
          ∧ Relayed s num role relayBad noRelay noTags (some payload)
              (withOverrun (dueAfter s.headTime x.due row.period).2 { s.ulp with feedHold := t.ulp.feedHold }) t.ulp
          ∧ (x.node = .lost →
              ∃ tx deadline, s.sbm.bus = .response tx deadline
                ∧ Waits s.headTime .nodeRestored (.slot num) (tx.address : Int) t.rpu.events)
          ∧ (x.node ≠ .lost → NonePosted .nodeRestored (.slot num) s.rpu.events t.rpu.events)
          ∧ t.tst = s.tst ∧ t.headTime = s.headTime ∧ t.nSet = s.nSet ∧ t.pending = s.pending
          ∧ t.rpu = { s.rpu with events := t.rpu.events }
          ∧ (role = .aux → x.node ≠ .lost → t = { s with sbm := t.sbm, ulp := t.ulp }))
    ∧ ∀ (s : State) (chars : List BusChar) (tx : Transaction) (deadline : HeadTime) (r : Response) (num : Nat)
        (role : Role) (relayBad noRelay : Bool),
        s.sbm.bus = .response tx deadline → tx.serving = .slot num role relayBad noRelay true →
          gatherResponse chars = some r → responseTags tx r = noTags →
            ∃ t, exec (.responseComplete chars) s = .next (serveUplink t)
              ∧ Granted s { s.sbm with bus := .idle } t.sbm
              ∧ Relayed s num role relayBad noRelay noTags (some r.payload) { s.ulp with feedHold := t.ulp.feedHold } t.ulp
              ∧ (∀ slot : Nat, NonePosted .nodeRestored (.slot slot) s.rpu.events t.rpu.events
                  ∧ NonePosted .nodeLost (.slot slot) s.rpu.events t.rpu.events)
              ∧ (role = .aux → t = { s with sbm := t.sbm, ulp := t.ulp })

/-- A good drum sample, from a counted slot or from one of a replaced Poll Table: N_meas is stored, 0 where the sensed
direction is not the running one; in RUN and STOPPING a pressure above the limit trips the drum, and any other makes the
update of ramp, direction, trim and duty toward the composed target. Outside these states nothing else of the drum changes,
but for a governor in NOFB whose node becomes ALIVE with the sample: it enters OFF, a pending direction change is carried
out, and one last N_meas stands whichever was first, measured in one of the two directions (log 31). -/
def Obligations.DrumSampleUpdatesGovernor : Prop :=
  ∀ (d : Drum) (s : State) (chars : List BusChar) (payload : List Byte) (told : Bool) (posted : List EventEntry),
    SampleComes s chars (drumRole d) payload told posted →
      ∀ (sample : DrumSample) (g : Governor), sample = drumOf payload →
        g = { s.governor d with nMeas := sensedSpeed sample (s.governor d).running } →
          ∃ t, exec (.responseComplete chars) s = .next (serveUplink t)
            ∧ (told = true → g.state = .nofb →
                ∃ along : Direction, (along = g.running ∨ along = g.requested)
                  ∧ t.governor d
                      = { g with
                          state := .off
                          speed := 0
                          residue := 0
                          integrator := 0
                          duty := 0
                          running := g.requested
                          prevUpdate := none
                          nMeas := sensedSpeed sample along }
                  ∧ t.rpu.events = posted ∧ t.freeSeq = s.freeSeq + 1)
            ∧ (told = false ∨ g.state ≠ .nofb →
                t.freeSeq = s.freeSeq
                  ∧ (driving g = false → t.governor d = g ∧ t.rpu.events = posted)
                  ∧ (driving g = true → s.tst.active.drum.params.pTrip < min 4000 sample.pressure →
                      DrumTripped s d (min 4000 sample.pressure) g (t.governor d) posted t.rpu.events)
                  ∧ (driving g = true → min 4000 sample.pressure ≤ s.tst.active.drum.params.pTrip →
                      Updated s.headTime s.tst.active.drum d
                          (composedTarget s.nSet s.tst.active.drum.params.nMax s.spl.deltaN
                            (loadFactor { s with sbm := t.sbm }) d)
                          g (t.governor d)
                        ∧ t.rpu.events = posted))
            ∧ (∀ other : Drum, other ≠ d → t.governor other = s.governor other)
            ∧ t =
                { s with
                  sbm := t.sbm
                  ulp := t.ulp
                  rpu := { s.rpu with events := t.rpu.events }
                  governorL := t.governorL
                  governorR := t.governorR
                  freeSeq := t.freeSeq }

/-- A good sample of an inclinometer, whatever its node was, and from a slot of a replaced Poll Table too: in ADVANCING,
below the greatest count, it is corrected by its sensor's mounting offsets, limited and added to its sensor's
accumulator, and a limited value sets the SATURATED mark; then the planner evaluates and hands its target change. -/
def Obligations.InclinometerSampleAccumulates : Prop :=
  ∀ (sensor : Sensor) (s : State) (chars : List BusChar) (payload : List Byte) (told : Bool) (posted : List EventEntry)
    (o : MountingOffsets) (a : Accumulator) (y z : InclSample),
    SampleComes s chars (inclinometerRole sensor) payload told posted →
      o = (match sensor with | .a => s.tst.active.mounting.offsetsA | .b => s.tst.active.mounting.offsetsB) →
        a = (match sensor with | .a => s.vtr.accA | .b => s.vtr.accB) →
          y = ⟨(inclOf payload).x - o.x, (inclOf payload).y - o.y, (inclOf payload).twist - o.twist⟩ →
            z =
                ⟨max (-50000) (min 50000 y.x), max (-50000) (min 50000 y.y), max (-1800) (min 1800 y.twist)⟩ →
              ∃ t, exec (.responseComplete chars) s = .next (serveUplink t)
                ∧ (s.vtr.state ≠ .advancing ∨ 65535 ≤ a.count → t.vtr = s.vtr)
                ∧ (s.vtr.state = .advancing → a.count < 65535 →
                    t.vtr =
                      { s.vtr with
                        accA :=
                          if sensor = .a then ⟨a.sumX + z.x, a.sumY + z.y, a.sumTwist + z.twist, a.count + 1⟩
                          else s.vtr.accA
                        accB :=
                          if sensor = .b then ⟨a.sumX + z.x, a.sumY + z.y, a.sumTwist + z.twist, a.count + 1⟩
                          else s.vtr.accB
                        saturated := s.vtr.saturated || decide (z ≠ y) })
                ∧ Evaluated s.tst.active.steering (effectiveMode s) t.vtr.state (steeringErrors s.tst.active t.vtr)
                    s.spl t.spl
                ∧ Handed s t.spl.targets t.pps.plates
                ∧ t =
                    { s with
                      sbm := t.sbm
                      ulp := t.ulp
                      rpu := { s.rpu with events := posted }
                      vtr := t.vtr
                      spl := t.spl
                      pps := { s.pps with plates := t.pps.plates } }

/-- A good SLURRY sample, of a returning node and of a replaced Poll Table too: in PRIME a flow of at least q_min takes the
pump to RUN; in RUN the dry test is made, and the solids returned since the last sample leave the account by the
concentration, both with the node ALIVE after the response; with a node that is not, no dry timer starts and no solids are
counted. Then the account is limited, and the load level and the feed hold follow it. -/
def Obligations.SlurrySampleSettlesAccount : Prop :=
  ∀ (s : State) (chars : List BusChar) (payload : List Byte) (told : Bool) (posted : List EventEntry)
    (sample : SlurrySample) (flow returned : Nat) (suction : Int),
    SampleComes s chars .slurry payload told posted →
      sample = slurryOf payload → flow = min 2000 sample.flow → suction = max (-100) (min 1000 sample.suction) →
        returned =
            flow * sinceLast s.headTime s.sru.prevSample
                * concentration sample.density s.sru.supplyDensity s.tst.active.slurry.ground.solidsDensity
              + s.sru.residueR →
          ∃ t, exec (.responseComplete chars) s = .next (serveUplink t)
            ∧ t.sru.pump
                = (if s.sru.pump = .prime ∧ s.tst.active.slurry.pump.qMin ≤ flow then .run else s.sru.pump)
            ∧ t.sru.primeDeadline
                = (if s.sru.pump = .prime ∧ s.tst.active.slurry.pump.qMin ≤ flow then none else s.sru.primeDeadline)
            ∧ (t.sru.pump = .run → roleAlive .slurry { s with sbm := t.sbm } = true →
                DryTested s.headTime s.tst.active.slurry.pump flow suction s.sru.dryDeadline t.sru.dryDeadline
                  ∧ t.sru.account
                      = min (s.sru.account - returned / 10000) s.tst.active.slurry.ground.accountMax
                  ∧ t.sru.residueR = returned % 10000)
            ∧ (t.sru.pump = .run → roleAlive .slurry { s with sbm := t.sbm } = false →
                t.sru.dryDeadline
                    = (if s.tst.active.slurry.pump.qMin ≤ flow ∧ s.tst.active.slurry.pump.suctionMin ≤ suction then none
                        else s.sru.dryDeadline)
                  ∧ t.sru.account = min s.sru.account s.tst.active.slurry.ground.accountMax
                  ∧ t.sru.residueR = s.sru.residueR)
            ∧ (t.sru.pump ≠ .run →
                t.sru.dryDeadline = s.sru.dryDeadline
                  ∧ t.sru.account = min s.sru.account s.tst.active.slurry.ground.accountMax
                  ∧ t.sru.residueR = s.sru.residueR)
            ∧ t.sru.level = levelAfter s.tst.active.slurry.levels t.sru.account s.sru.level
            ∧ (t.sru.level ≠ s.sru.level →
                Posted s.headTime .level .sru (t.sru.level : Int) posted t.rpu.events)
            ∧ (t.sru.level = s.sru.level → t.rpu.events = posted)
            ∧ HoldTested s t.sru.level t.sru.held t.sru.refreshDeadline t.ulp.feedHold
            ∧ t =
                { s with
                  sbm := t.sbm
                  ulp := t.ulp
                  rpu := { s.rpu with events := t.rpu.events }
                  sru :=
                    { s.sru with
                      pump := t.sru.pump
                      primeDeadline := t.sru.primeDeadline
                      dryDeadline := t.sru.dryDeadline
                      prevSample := some s.headTime
                      account := t.sru.account
                      residueR := t.sru.residueR
                      level := t.sru.level
                      held := t.sru.held
                      refreshDeadline := t.sru.refreshDeadline } }

/-- A good FLAP sample, from a counted slot or from one of a replaced Poll Table, stores the four positions, limited to
1,000. Each plate then has a decision on them while the link is ONLINE. When the node becomes ALIVE with the sample, the
plates in NOFB leave it: one with its latch set to STUCK, any other to HOLD, decided on the sample's positions; the notice
may have made a decision on the old ones first. -/
def Obligations.FlapSampleStoresPositions : Prop :=
  ∀ (s : State) (chars : List BusChar) (payload : List Byte) (told : Bool) (posted : List EventEntry),
    SampleComes s chars .flap payload told posted →
      ∃ t, exec (.responseComplete chars) s = .next (serveUplink t)
        ∧ (∀ (id : PlateId) (p q : Plate) (new : Nat), p = s.pps.plates.get id → q = t.pps.plates.get id →
            new = min 1000 ((flapOf payload).get id) →
              q.position = some new ∧ q.stuckLatch = p.stuckLatch
                ∧ (told = false ∨ p.state ≠ .nofb → DecidedWhileOnline s id { p with position := some new } q)
                ∧ (told = true → p.state = .nofb →
                    (p.stuckLatch = true → q = { p with state := .stuck, position := some new })
                      ∧ (p.stuckLatch = false →
                          DecidedWhileOnline s id { p with state := .hold, position := some new } q
                            ∨ ∃ between, DecidedWhileOnline s id { p with state := .hold } between
                                ∧ DecidedWhileOnline s id { between with position := some new } q)))
        ∧ t =
            { s with
              sbm := t.sbm
              ulp := t.ulp
              rpu := { s.rpu with events := posted }
              pps := { s.pps with plates := t.pps.plates }
              freeSeq := if told then s.freeSeq + 1 else s.freeSeq }

/-- A response: its characters are gathered in the order of the layout, and it is complete with its CRC character; each
check that fails adds its tag; a NODE_FAULT is looked for only where no other tag is; a set of tags has the lowest code it
contains. The values of a sample lie in its payload in the order and the widths of its role. -/
def Obligations.ResponseIsCheckedAndRead : Prop :=
  (∀ (a k l c : BusChar) (payload extra : List BusChar), payload.length = l.data.toNat →
      gatherResponse (a :: k :: l :: (payload ++ c :: extra))
          = some ⟨a, k :: l :: (payload ++ [c]), k.data, l.data, payload.map (fun x => x.data), c.data⟩
        ∧ gatherResponse (a :: k :: l :: payload) = none)
    ∧ (∀ (tx : Transaction) (r : Response),
        (responseTags tx r).timeout = false
          ∧ ((responseTags tx r).addrMismatch = true ↔
              r.addressChar.marker = false ∨ r.addressChar.data.toNat ≠ tx.address)
          ∧ ((responseTags tx r).length = true ↔
              r.kind ≠ kindOf tx.serving ∨ ¬RightLength tx.serving r.length.toNat ∨ (∃ c ∈ r.later, c.marker = true)
                ∨ ∃ a, tx.serving = .access a ∧ r.payload.head? ≠ some a.register)
          ∧ ((responseTags tx r).crc = true ↔
              crc8 (r.kind :: r.length :: r.payload) ≠ r.crc ∨ r.addressChar.stop = false ∨ ∃ c ∈ r.later, c.stop = false)
          ∧ ((responseTags tx r).nodeFault = true ↔
              (responseTags tx r).addrMismatch = false ∧ (responseTags tx r).length = false
                ∧ (responseTags tx r).crc = false ∧ r.payload.getLast? ≠ some 0#8
                ∧ ∃ num role relayBad noRelay orphan,
                    tx.serving = .slot num role relayBad noRelay orphan ∧ role ≠ .aux))
    ∧ (∀ tags : TagSet,
        (tags.timeout = true → tagCode tags = 1)
          ∧ (tags.timeout = false → tags.crc = true → tagCode tags = 2)
          ∧ (tags.timeout = false → tags.crc = false → tags.addrMismatch = true → tagCode tags = 3)
          ∧ (tags.timeout = false → tags.crc = false → tags.addrMismatch = false → tags.length = true →
              tagCode tags = 4)
          ∧ (tags.timeout = false → tags.crc = false → tags.addrMismatch = false → tags.length = false →
              tags.nodeFault = true → tagCode tags = 5))
    ∧ crc8 [0x01#8, 0x00#8] = 0x15#8
    ∧ (∀ (x y w : Int) (status : Byte), -2147483648 ≤ x → x < 2147483648 → -2147483648 ≤ y → y < 2147483648 →
        -32768 ≤ w → w < 32768 → inclOf (leInt 4 x ++ leInt 4 y ++ leInt 2 w ++ [status]) = ⟨x, y, w⟩)
    ∧ (∀ (speed pressure : Nat) (direction t0 t1 status : Byte), speed < 65536 → pressure < 65536 →
        drumOf (leBytes 2 speed ++ direction :: (leBytes 2 pressure ++ [t0, t1, status])) = ⟨speed, direction, pressure⟩)
    ∧ (∀ (flow density : Nat) (suction : Int) (p0 p1 status : Byte), flow < 65536 → density < 65536 →
        -32768 ≤ suction → suction < 32768 →
          slurryOf (leBytes 2 flow ++ leBytes 2 density ++ leInt 2 suction ++ [p0, p1, status])
            = ⟨flow, density, suction⟩)
    ∧ ∀ (p1 p2 p3 p4 : Nat) (status : Byte), p1 < 65536 → p2 < 65536 → p3 < 65536 → p4 < 65536 →
        flapOf (leBytes 2 p1 ++ leBytes 2 p2 ++ leBytes 2 p3 ++ leBytes 2 p4 ++ [status]) = ⟨p1, p2, p3, p4⟩

/-- The end of an access answers it: OK with the node's register value when no check fails, NODE_ERROR when one does and
NODE_TIMEOUT at the response deadline, the value then 0; no access is outstanding, and the bus is free for the arbiter.
No slot, no node state and no other block changes. -/
def Obligations.AccessIsAnswered : Prop :=
  ∀ (s : State) (tx : Transaction) (deadline : HeadTime) (a : Access), s.sbm.bus = .response tx deadline →
    tx.serving = .access a →
      (∀ (chars : List BusChar) (r : Response), gatherResponse chars = some r →
          ∃ b, Granted s { s.sbm with bus := .idle, access := none } b
            ∧ exec (.responseComplete chars) s
                = .next
                    (serveUplink
                      { s with
                        sbm := b
                        ulp :=
                          { s.ulp with
                            answers :=
                              s.ulp.answers
                                ++ [⟨0x33#8, a.tag, if responseTags tx r = noTags then .ok else .nodeError,
                                  BitVec.ofNat 8 a.address :: (if a.op = .read then 0#8 else 1#8) :: a.register
                                    :: (if responseTags tx r = noTags then (r.payload.drop 1).take 2
                                        else [0#8, 0#8])⟩] } }))
        ∧ (reached deadline s.headTime = true →
            ∃ b, Granted s { s.sbm with bus := .idle, access := none } b
              ∧ exec .responseTimeout s
                  = .next
                      (serveUplink
                        { s with
                          sbm := b
                          ulp :=
                            { s.ulp with
                              answers :=
                                s.ulp.answers
                                  ++ [⟨0x33#8, a.tag, .nodeTimeout,
                                    BitVec.ofNat 8 a.address :: (if a.op = .read then 0#8 else 1#8) :: a.register
                                      :: [0#8, 0#8]⟩] } }))

/-- A slot transaction that ends with a bad response, or at its response deadline, counts a failure: the count rises to at
most 15, at the lost limit the node is LOST with NODE_LOST posted once and its consumer told, the due time is set, and
the record is relayed only with RELAY_BAD. A failure of a slot of a replaced Poll Table counts nothing: its record alone
is relayed. A response that comes outside RESPONSE changes nothing. -/
def Obligations.FailureIsCounted : Prop :=
  (∀ (s : State) (chars : List BusChar), (∀ tx deadline, s.sbm.bus ≠ .response tx deadline) →
      exec (.responseComplete chars) s = .next (serveUplink s))
    ∧ (∀ (s : State) (c : Instr) (tx : Transaction) (deadline : HeadTime) (num : Nat) (role : Role)
        (relayBad noRelay : Bool) (tags : TagSet) (payload : Option (List Byte)) (x : Slot) (row : PollRow),
        s.sbm.bus = .response tx deadline → tx.serving = .slot num role relayBad noRelay false → 1 ≤ num →
          s.sbm.slots[num - 1]? = some x → s.tst.active.poll.rows[num - 1]? = some row →
            (c = .responseTimeout ∧ reached deadline s.headTime = true ∧ tags = timeoutTags ∧ payload = none)
                ∨ (∃ chars r, c = .responseComplete chars ∧ gatherResponse chars = some r ∧ tags = responseTags tx r
                    ∧ tags ≠ noTags ∧ payload = if tags.nodeFault then some r.payload else none) →
              ∀ lost : Prop,
                (lost ↔ s.tst.active.poll.params.lostLimit ≤ min 15 (x.failures + 1) ∧ x.node ≠ .lost) →
                  ∃ t, exec c s = .next (serveUplink t)
                    ∧ Granted s (slotServedBad s num x row) t.sbm
                    ∧ Relayed s num role relayBad noRelay tags payload
                        (withOverrun (dueAfter s.headTime x.due row.period).2 s.ulp) t.ulp
                    ∧ (lost → Posted s.headTime .nodeLost (.slot num) (tagCode tags : Int) s.rpu.events t.rpu.events)
                    ∧ (¬lost → t.rpu.events = s.rpu.events)
                    ∧ (∀ d : Drum,
                        (lost → role = drumRole d → (driving (s.governor d) = true ∨ ∃ p, (s.governor d).state = .trip p) →
                            t.governor d
                              = { s.governor d with
                                  state := .nofb
                                  speed := 0
                                  residue := 0
                                  integrator := 0
                                  duty := 0
                                  prevUpdate := none })
                          ∧ (¬lost ∨ role ≠ drumRole d ∨ (s.governor d).state = .off ∨ (s.governor d).state = .lockout
                                ∨ (s.governor d).state = .nofb →
                              t.governor d = s.governor d))
                    ∧ (lost → role = .slurry → t.sru = { s.sru with dryDeadline := none })
                    ∧ (¬lost ∨ role ≠ .slurry → t.sru = s.sru)
                    ∧ (lost → role = .flap → ∀ id : PlateId,
                        (t.pps.plates.get id).state = .nofb
                          ∧ (moving (s.pps.plates.get id) = true →
                              Stopped s.headTime s.tst.active.steering.params.reversalDwell .nofb
                                (s.pps.plates.get id) (t.pps.plates.get id))
                          ∧ (moving (s.pps.plates.get id) = false →
                              t.pps.plates.get id = { s.pps.plates.get id with state := .nofb }))
                    ∧ (¬lost ∨ role ≠ .flap → t.pps = s.pps)
                    ∧ t =
                        { s with
                          sbm := t.sbm
                          ulp := t.ulp
                          rpu := { s.rpu with events := t.rpu.events }
                          governorL := t.governorL
                          governorR := t.governorR
                          sru := t.sru
                          pps := { s.pps with plates := t.pps.plates } })
    ∧ ∀ (s : State) (c : Instr) (tx : Transaction) (deadline : HeadTime) (num : Nat) (role : Role)
        (relayBad noRelay : Bool) (tags : TagSet) (payload : Option (List Byte)),
        s.sbm.bus = .response tx deadline → tx.serving = .slot num role relayBad noRelay true →
          (c = .responseTimeout ∧ reached deadline s.headTime = true ∧ tags = timeoutTags ∧ payload = none)
              ∨ (∃ chars r, c = .responseComplete chars ∧ gatherResponse chars = some r ∧ tags = responseTags tx r
                  ∧ tags ≠ noTags ∧ payload = if tags.nodeFault then some r.payload else none) →
            ∃ t, exec c s = .next (serveUplink t)
              ∧ Granted s { s.sbm with bus := .idle } t.sbm
              ∧ Relayed s num role relayBad noRelay tags payload s.ulp t.ulp
              ∧ t = { s with sbm := t.sbm, ulp := t.ulp }

/-! ### The timers -/

/-- At the end of an off-time a unit restarts under policy AUTO when its permit is held, the link is ONLINE and its node
is ALIVE; under HOLD it waits when its latch is set and its permit held; otherwise it enters OFF. -/
def Obligations.OffTimeExpiryRestartsOrWaits : Prop :=
  ∀ (s : State) (deadline : HeadTime), reached deadline s.headTime = true →
    (∀ d : Drum, (s.governor d).state = .trip (.timing deadline) →
        exec (.offTimeExpiry (.drum d)) s
          = .next
              (serveUplink
                (s.setGovernor d
                  (if s.tst.active.drum.params.policy = .auto ∧ (s.governor d).prot.permit = true
                        ∧ s.ulp.link = .online ∧ roleAlive (drumRole d) s = true then
                    { s.governor d with state := .run, speed := 0, residue := 0, integrator := 0, prevUpdate := none }
                  else if s.tst.active.drum.params.policy = .hold ∧ (s.governor d).prot.latch = true
                        ∧ (s.governor d).prot.permit = true then
                    { s.governor d with state := .trip .waiting }
                  else
                    { s.governor d with
                      state := .off
                      speed := 0
                      residue := 0
                      integrator := 0
                      duty := 0
                      running := (s.governor d).requested
                      prevUpdate := none }))))
      ∧ (s.sru.pump = .trip (.timing deadline) →
          exec (.offTimeExpiry .pump) s
            = .next
                (serveUplink
                  { s with
                    sru :=
                      if s.tst.active.slurry.pump.policy = .auto ∧ s.sru.prot.permit = true ∧ s.ulp.link = .online
                          ∧ roleAlive .slurry s = true then
                        { s.sru with
                          pump := .prime
                          duty := min s.sru.setpoint s.tst.active.slurry.pump.maxDuty
                          primeDeadline := some (s.headTime + BitVec.ofNat 32 s.tst.active.slurry.pump.primeTime)
                          dryDeadline := none }
                      else if s.tst.active.slurry.pump.policy = .hold ∧ s.sru.prot.latch = true
                          ∧ s.sru.prot.permit = true then
                        { s.sru with pump := .trip .waiting }
                      else { s.sru with pump := .off, duty := 0, primeDeadline := none, dryDeadline := none } }))

/-- The timers of the Slurry Return Unit: the prime deadline trips the pump in PRIME with cause 1, the dry deadline trips
it in RUN with cause 2, and the refresh deadline renews a hold with the hold time as it then stands. -/
def Obligations.SlurryTimersExpire : Prop :=
  ∀ (s : State) (deadline : HeadTime), reached deadline s.headTime = true →
    (s.sru.pump = .prime → s.sru.primeDeadline = some deadline →
        ∃ t, exec .primeTimeout s = .next (serveUplink t) ∧ PumpTripped s 1 t)
      ∧ (s.sru.pump = .run → s.sru.dryDeadline = some deadline →
          ∃ t, exec .dryTimeout s = .next (serveUplink t) ∧ PumpTripped s 2 t)
      ∧ (s.sru.held = true → s.sru.refreshDeadline = some deadline →
          exec .refreshDeadline s
            = .next
                (serveUplink
                  { s with
                    sru :=
                      { s.sru with
                        refreshDeadline :=
                          some (s.headTime + BitVec.ofNat 32 (s.tst.active.slurry.levels.holdTime / 2)) }
                    ulp := { s.ulp with feedHold := some s.tst.active.slurry.levels.holdTime } }))

/-- The timers of a plate. The stroke deadline of a moving plate takes it to HOLD when it stands in its band, and else to
STUCK with its latch set and STUCK posted with the position. The end of a dwell clears the bar, and a plate in HOLD then
has a decision while the link is ONLINE. -/
def Obligations.PlateTimersExpire : Prop :=
  ∀ (s : State) (id : PlateId) (p : Plate) (t : SteeringParams) (target : Nat), p = s.pps.plates.get id →
    t = s.tst.active.steering.params → target = targetOf s.pps.mode s.spl.targets s.pps.manualTargets id →
      (∀ (deadline : HeadTime) (pos : Nat), moving p = true → p.position = some pos →
          p.strokeDeadline = some deadline → reached deadline s.headTime = true →
            (s.ulp.link = .online → target ≤ pos + t.deadband → pos ≤ target + t.deadband →
                ∃ q, exec (.strokeTimeout id) s
                    = .next (serveUplink { s with pps := { s.pps with plates := s.pps.plates.set id q } })
                  ∧ Stopped s.headTime t.reversalDwell .hold p q ∧ q.stuckLatch = p.stuckLatch)
              ∧ (s.ulp.link ≠ .online ∨ pos + t.deadband < target ∨ target + t.deadband < pos →
                  ∃ q events, exec (.strokeTimeout id) s
                      = .next
                          (serveUplink
                            { s with
                              pps := { s.pps with plates := s.pps.plates.set id q }
                              rpu := { s.rpu with events := events } })
                    ∧ Stopped s.headTime t.reversalDwell .stuck p q ∧ q.stuckLatch = true
                    ∧ Posted s.headTime .stuck (.plate id) (pos : Int) s.rpu.events events))
        ∧ (∀ b : Bar, p.bar = some b → reached b.deadline s.headTime = true →
            ∃ q, exec (.dwellEnd id) s
                = .next (serveUplink { s with pps := { s.pps with plates := s.pps.plates.set id q } })
              ∧ (p.state ≠ .hold ∨ s.ulp.link ≠ .online → q = { p with bar := none })
              ∧ (p.state = .hold → s.ulp.link = .online → Decided s.headTime t target { p with bar := none } q))

/-! ### The uplink -/

/-- The end of a frame leaves the uplink idle, or SILENT in HUNT, and lets a sync reply that waited for it go on; the end
of the sync reply leaves it idle. Then the arbiter chooses the first source that has a frame: FEED HOLD, event, answer,
log data, status, telemetry; the frame is fixed at the choice and leaves its source, and STATUS clears the latches. That an
idle uplink chooses at the end of a command, when its effects are all made, is the model's reading (log 10, DEDUCED). -/
def Obligations.UplinkSendsFirstSource : Prop :=
  (∀ (s : State) (frame : TxFrame), s.ulp.tx = some frame →
      (s.ulp.uplink = .sending →
          exec .uplinkFrameEnd s
            = .next
                (serveUplink
                  { s with
                    ulp := { s.ulp with tx := none, uplink := if s.ulp.link = .hunt then .silent else .idle } }))
        ∧ (s.ulp.uplink = .sync → exec .uplinkFrameEnd s = .next { s with ulp := { s.ulp with tx := none } }))
    ∧ (∀ s : State, s.ulp.tx = none →
        exec .uplinkFrameEnd s = .next (serveUplink s)
          ∧ (s.ulp.uplink = .sync →
              exec .syncReplyEnd s = .next (serveUplink { s with ulp := { s.ulp with uplink := .idle } })))
    ∧ ∀ s : State,
        (s.ulp.uplink ≠ .idle ∨ s.ulp.link = .hunt → serveUplink s = s)
          ∧ (s.ulp.uplink = .idle → s.ulp.link ≠ .hunt → ∀ send : Byte → Byte → List Byte → Ulp → Ulp,
              (∀ kind tag payload u,
                  send kind tag payload u
                    = { u with uplink := .sending, tx := some ⟨kind, tag, payload, s.ulp.rate⟩ }) →
                (∀ hold, s.ulp.feedHold = some hold →
                    serveUplink s
                      = { s with ulp := send 0x83#8 0#8 (leBytes 2 hold) { s.ulp with feedHold := none } })
                  ∧ (s.ulp.feedHold = none →
                      (∀ e rest, s.rpu.events = e :: rest →
                          serveUplink s
                            = { s with
                                rpu := { s.rpu with events := rest }
                                ulp := send 0x82#8 0#8 (eventPayload e) s.ulp })
                        ∧ (s.rpu.events = [] →
                            (∀ a rest, s.ulp.answers = a :: rest →
                                serveUplink s
                                  = { s with
                                      ulp :=
                                        send 0x84#8 a.tag (a.kind :: BitVec.ofNat 8 (resultCode a.result) :: a.payload)
                                          { s.ulp with answers := rest } })
                              ∧ (s.ulp.answers = [] →
                                  (∀ r, s.rpu.readout = some r →
                                      serveUplink s
                                        = { s with
                                            rpu :=
                                              { s.rpu with
                                                readout :=
                                                  if r.remaining ≤ 4 then none else some ⟨r.next + 4, r.remaining - 4⟩ }
                                            ulp :=
                                              send 0x85#8 0#8
                                                (leBytes 2 s.vtr.generation.toNat ++ leBytes 2 s.vtr.log.length
                                                  ++ leBytes 2 r.next ++ leBytes 1 (min 4 r.remaining)
                                                  ++ ((s.vtr.log.drop r.next).take (min 4 r.remaining)).flatMap recordBytes)
                                                s.ulp })
                                    ∧ (s.rpu.readout = none →
                                        (s.ulp.statusPending = true →
                                            serveUplink s
                                              = { s with
                                                  ulp :=
                                                    send 0x81#8 0#8 (statusPayload s)
                                                      { s.ulp with
                                                        statusPending := false
                                                        summary := ⟨false, false, false, false⟩ } })
                                          ∧ (s.ulp.statusPending = false →
                                              (∀ r rest, s.ulp.telemetry = r :: rest →
                                                  serveUplink s
                                                    = { s with
                                                        ulp :=
                                                          send 0x80#8 0#8 (telemetryPayload r)
                                                            { s.ulp with telemetry := rest } })
                                                ∧ (s.ulp.telemetry = [] → serveUplink s = s)))))))

/-- The pins and the pairs: SBDIR is high exactly in REQUEST, each speed output carries its duty, each direction output is
high for OUTWARD, and a plate output is on exactly in its motion, never both. A character is eleven bits: start, data least
significant bit first, parity or marker, stop; the parity is even. The uplink pair carries the frame in transmission at the
rate at which it started, after it the sync reply of eight 0x55 at the locked rate, and else nothing; the bus carries the
request in REQUEST, its address character alone with marker 1. -/
def Obligations.PinsAndPairsCarryTheState : Prop :=
  (∀ s : State,
      (s.pins.sbdir = true ↔ ∃ tx, s.sbm.bus = .request tx) ∧ s.pins.dvl = s.governorL.duty
        ∧ s.pins.dvr = s.governorR.duty ∧ (s.pins.ddl = true ↔ s.governorL.running = .outward)
        ∧ (s.pins.ddr = true ↔ s.governorR.running = .outward) ∧ s.pins.pvo = s.sru.duty
        ∧ ∀ id : PlateId,
            (s.pins.extend.get id = true ↔ (s.pps.plates.get id).state = .extend)
              ∧ (s.pins.retract.get id = true ↔ (s.pps.plates.get id).state = .retract)
              ∧ ¬(s.pins.extend.get id = true ∧ s.pins.retract.get id = true))
    ∧ (∀ c : LinkChar,
        linkBits c
            = [false, c.data.getLsbD 0, c.data.getLsbD 1, c.data.getLsbD 2, c.data.getLsbD 3, c.data.getLsbD 4,
              c.data.getLsbD 5, c.data.getLsbD 6, c.data.getLsbD 7, c.parity, c.stop]
          ∧ linkCharOf (linkBits c) = some c
          ∧ (parityError c = true ↔ ((linkBits c).dropLast.filter id).length % 2 = 1))
    ∧ (∀ c : BusChar,
        busBits c
            = [false, c.data.getLsbD 0, c.data.getLsbD 1, c.data.getLsbD 2, c.data.getLsbD 3, c.data.getLsbD 4,
              c.data.getLsbD 5, c.data.getLsbD 6, c.data.getLsbD 7, c.marker, c.stop]
          ∧ busCharOf (busBits c) = some c)
    ∧ (∀ b : Byte, charError (goodChar b) = false ∧ sentChar b = goodChar b)
    ∧ (∀ (s : State) (f : TxFrame), s.ulp.tx = some f →
        uplinkSends s
          = some
              ((0xC3#8 :: ((BitVec.ofNat 8 f.payload.length :: f.kind :: f.tag :: f.payload)
                  ++ leBytes 2 (crc16 (BitVec.ofNat 8 f.payload.length :: f.kind :: f.tag :: f.payload)).toNat)).map
                goodChar,
              linkBaud f.rate))
    ∧ (∀ s : State, s.ulp.tx = none →
        (s.ulp.uplink = .sync →
            uplinkSends s
              = some
                  ([goodChar 0x55#8, goodChar 0x55#8, goodChar 0x55#8, goodChar 0x55#8, goodChar 0x55#8, goodChar 0x55#8,
                    goodChar 0x55#8, goodChar 0x55#8],
                  linkBaud s.ulp.rate))
          ∧ (s.ulp.uplink ≠ .sync → uplinkSends s = none))
    ∧ (∀ (s : State) (tx : Transaction) (payload : List Byte), s.sbm.bus = .request tx →
        payload
            = (match tx.serving with
              | .slot _ _ _ _ _ => []
              | .access a => if a.op = .read then [a.register] else a.register :: leBytes 2 a.value.toNat) →
          busSends s
            = some
                (⟨true, BitVec.ofNat 8 tx.address, true⟩
                  :: (kindOf tx.serving :: BitVec.ofNat 8 payload.length
                      :: (payload ++ [crc8 (kindOf tx.serving :: BitVec.ofNat 8 payload.length :: payload)])).map
                    (fun b => ⟨false, b, true⟩),
                busBaud tx.rate))
    ∧ (∀ s : State, (∀ tx, s.sbm.bus ≠ .request tx) → busSends s = none)
    ∧ busBaud 0 = 250000 ∧ busBaud 1 = 500000 ∧ busBaud 2 = 1000000 ∧ linkBaud 0 = 38400 ∧ linkBaud 1 = 115200
    ∧ linkBaud 2 = 230400 ∧ linkBaud 3 = 460800

/-- The bytes of a STATUS frame, 94 in all, of an EVENT frame, 15 in all, of a station record in LOG DATA, 39 in all, and of
a TELEMETRY frame: each field at its place, in its width, with the codes of the chapters. -/
def Obligations.UplinkPayloadsAreLaidOut : Prop :=
  (∀ (s : State) (p : List Byte), p = statusPayload s →
      p.length = 94 ∧ slice p 0 4 = leBytes 4 s.headTime.toNat
        ∧ slice p 4 1 = [match s.ulp.link with | .hunt => 0 | .online => 1 | .loss => 2]
        ∧ slice p 5 1 = leBytes 1 s.ulp.rate.val
        ∧ slice p 6 1 = [match s.vtr.state with | .noPanel => 0 | .advancing => 1 | .aboveFace => 2 | .noDepth => 3]
        ∧ slice p 7 4 = (match s.vtr.depth with | none => [255, 255, 255, 255] | some d => leBytes 4 d)
        ∧ slice p 11 4 = leBytes 4 s.vtr.dFace ∧ slice p 15 2 = leBytes 2 s.vtr.generation.toNat
        ∧ slice p 17 2 = leBytes 2 s.vtr.log.length
        ∧ slice p 19 4 = leInt 4 (faceOffset s.tst.active.mounting.params s.vtr false)
        ∧ slice p 23 4 = leInt 4 (faceOffset s.tst.active.mounting.params s.vtr true)
        ∧ slice p 27 2 = leInt 2 (openMean s.tst.active.mounting.params s.vtr .twist) ∧ slice p 29 2 = leInt 2 s.spl.deltaN
        ∧ slice p 31 8
          = leBytes 2 s.spl.targets.p1 ++ leBytes 2 s.spl.targets.p2 ++ leBytes 2 s.spl.targets.p3
            ++ leBytes 2 s.spl.targets.p4
        ∧ (s.spl.lastErrors = none → slice p 39 11 = List.replicate 11 0)
        ∧ (∀ e, s.spl.lastErrors = some e → slice p 39 11 = 1 :: (leInt 4 e.ex ++ leInt 4 e.ey ++ leInt 2 e.w))
        ∧ slice p 50 1 = [match effectiveMode s with | .retract => 0 | .auto => 1 | .manual => 2 | .frozen => 3]
        ∧ (∀ (id : PlateId) (i : Nat), i = (match id with | .p1 => 51 | .p2 => 54 | .p3 => 57 | .p4 => 60) →
            slice p i 1
                = [match (s.pps.plates.get id).state with
                  | .hold => 0 | .extend => 1 | .retract => 2 | .stuck => 3 | .nofb => 4]
              ∧ slice p (i + 1) 2
                = (match (s.pps.plates.get id).position with | none => [255, 255] | some x => leBytes 2 x))
        ∧ slice p 63 1
          = [(if s.pps.plates.p1.stuckLatch then 1 else 0) + (if s.pps.plates.p2.stuckLatch then 2 else 0)
            + (if s.pps.plates.p3.stuckLatch then 4 else 0) + (if s.pps.plates.p4.stuckLatch then 8 else 0)]
        ∧ (∀ (d : Drum) (i : Nat), i = (match d with | .left => 64 | .right => 72) →
            slice p i 2
                = (match (s.governor d).state with
                  | .off => [0, 0] | .run => [1, 0] | .stopping => [2, 0] | .trip (.timing _) => [3, 1]
                  | .trip .waiting => [3, 2] | .lockout => [4, 0] | .nofb => [5, 0])
              ∧ slice p (i + 2) 6
                = leBytes 2 (s.governor d).speed ++ leBytes 2 (s.governor d).nMeas ++ leBytes 2 (s.governor d).duty)
        ∧ slice p 80 2
          = (match s.sru.pump with
            | .off => [0, 0] | .prime => [1, 0] | .run => [2, 0] | .trip (.timing _) => [3, 1] | .trip .waiting => [3, 2]
            | .lockout => [4, 0])
        ∧ slice p 82 2 = leBytes 2 s.sru.duty
        ∧ slice p 84 1
          = [(if s.governorL.prot.latch then 1 else 0) + (if s.governorR.prot.latch then 2 else 0)
            + (if s.sru.prot.latch then 4 else 0)]
        ∧ slice p 85 4 = leBytes 4 s.sru.account ∧ slice p 89 1 = leBytes 1 s.sru.level
        ∧ slice p 90 2 = leBytes 2 (loadFactor s) ∧ slice p 92 1 = [if s.sru.held then 1 else 0]
        ∧ slice p 93 1
          = [(if s.ulp.summary.frameDiscarded then 1 else 0) + (if s.ulp.summary.answerOverflow then 2 else 0)
            + (if s.ulp.summary.controlClamped then 4 else 0) + (if s.ulp.summary.pollOverrun then 8 else 0)])
    ∧ (∀ (e : EventEntry) (p : List Byte), p = eventPayload e →
        p.length = 15
          ∧ slice p 0 1
            = [match e.kind with
              | .linkLoss => 1 | .linkRestored => 2 | .frameErrors => 3 | .nodeLost => 4 | .nodeRestored => 5 | .trip => 6
              | .lockout => 7 | .level => 8 | .stuck => 9 | .inclDisagree => 10 | .logFull => 11 | .depthJump => 12
              | .tolerance => 13]
          ∧ slice p 1 1
            = [match e.source with
              | .link => 0 | .slot n => BitVec.ofNat 8 n | .unit (.drum .left) => 17 | .unit (.drum .right) => 18
              | .unit .pump => 19 | .sru => 20 | .plate .p1 => 21 | .plate .p2 => 22 | .plate .p3 => 23 | .plate .p4 => 24
              | .vtr => 25 | .axisX => 26 | .axisY => 27]
          ∧ slice p 2 4 = leInt 4 e.value ∧ slice p 6 4 = leBytes 4 e.first.toNat ∧ slice p 10 4 = leBytes 4 e.last.toNat
          ∧ slice p 14 1 = leBytes 1 e.count)
    ∧ (∀ (r : StationRecord) (p : List Byte), p = recordBytes r →
        p.length = 39 ∧ slice p 0 2 = leBytes 2 r.index ∧ slice p 2 4 = leBytes 4 r.depth ∧ slice p 6 4 = leInt 4 r.mX
          ∧ slice p 10 4 = leInt 4 r.mY ∧ slice p 14 2 = leInt 2 r.mT ∧ slice p 16 6 = leInt 6 r.sX
          ∧ slice p 22 6 = leInt 6 r.sY
          ∧ (∀ offset : Int, RoundedQuotient r.sX 200000 offset → slice p 28 4 = leInt 4 offset)
          ∧ (∀ offset : Int, RoundedQuotient r.sY 200000 offset → slice p 32 4 = leInt 4 offset)
          ∧ slice p 36 2 = leBytes 2 r.sampleCount
          ∧ slice p 38 1
            = [(if r.flags.start then 1 else 0) + (if r.flags.held then 2 else 0) + (if r.flags.single then 4 else 0)
              + (if r.flags.disagree then 8 else 0) + (if r.flags.saturated then 16 else 0)
              + (if r.flags.long then 32 else 0)])
    ∧ ∀ r : TelemetryRecord,
        telemetryPayload r
          = leBytes 1 r.slot
            ++ (match r.role with
              | .inclA => 1 | .inclB => 2 | .drumL => 3 | .drumR => 4 | .slurry => 5 | .flap => 6 | .aux => 7)
            :: (leBytes 4 r.time.toNat
              ++ ((if r.tags.timeout then 1 else 0) + (if r.tags.crc then 2 else 0)
                  + (if r.tags.addrMismatch then 4 else 0) + (if r.tags.length then 8 else 0)
                  + (if r.tags.nodeFault then 16 else 0))
                :: (match r.payload with | none => [] | some bytes => bytes))

/-! ### The functions of the rules -/

/-- The mean of a sensor on an axis is its sum divided by its count, rounded with halves away from zero; a count of 0
gives none, on all three axes alike. -/
def Obligations.SensorMeanIsRounded : Prop :=
  ∀ (a : Accumulator) (axis : Axis),
    (a.count = 0 → ∀ other : Axis, mean a other = none)
      ∧ (a.count ≠ 0 → ∃ q : Int, mean a axis = some q ∧ RoundedQuotient (accSum a axis) a.count q)

/-- The vote of an axis: with two means that differ by at most the limit their rounded mean, with two that differ by more
that of the primary sensor, which is the disagreement row and no other case is, with one that one, and with none the newest
record's value (R15); 0 with an empty log is the model's choice (log 18). The open means and the live offsets at the face
are formed from the votes and the newest record, all 0 with an empty log (R22, R23), and the errors of the AUTO computation
from them, the lookahead and the plan target (R36, R37). -/
def Obligations.VotesGiveFaceAndErrors : Prop :=
  (∀ (m : MountingParams) (v : Vtr) (axis : Axis) (limit : Nat),
      limit = (if axis = .twist then m.agreementTwist else m.agreementXY) →
        (∀ a b : Int, mean v.accA axis = some a → mean v.accB axis = some b →
            ((a - b).natAbs ≤ limit → RoundedQuotient (a + b) 2 (vote m v axis))
              ∧ (limit < (a - b).natAbs → vote m v axis = if m.primary = .a then a else b))
          ∧ (disagrees m v axis = true ↔
              ∃ a b : Int, mean v.accA axis = some a ∧ mean v.accB axis = some b ∧ limit < (a - b).natAbs)
          ∧ (∀ a : Int, mean v.accA axis = some a → mean v.accB axis = none → vote m v axis = a)
          ∧ (∀ b : Int, mean v.accA axis = none → mean v.accB axis = some b → vote m v axis = b)
          ∧ (mean v.accA axis = none → mean v.accB axis = none →
              (v.log = [] → vote m v axis = 0)
                ∧ ∀ r, v.log.getLast? = some r →
                    vote m v axis = (match axis with | .x => r.mX | .y => r.mY | .twist => r.mT)))
    ∧ (∀ (m : MountingParams) (v : Vtr),
        (v.log = [] →
            faceOffset m v false = 0 ∧ faceOffset m v true = 0 ∧ ∀ axis, openMean m v axis = 0)
          ∧ ∀ r, v.log.getLast? = some r →
              (∀ axis, openMean m v axis = vote m v axis)
                ∧ RoundedQuotient
                    (r.sX + ((if r.index = 0 then vote m v .x else r.mX) + vote m v .x) * ((v.dFace : Int) - r.depth))
                    200000 (faceOffset m v false)
                ∧ RoundedQuotient
                    (r.sY + ((if r.index = 0 then vote m v .y else r.mY) + vote m v .y) * ((v.dFace : Int) - r.depth))
                    200000 (faceOffset m v true))
    ∧ ∀ (t : Tables) (v : Vtr) (m : MountingParams) (plan : PlanTarget) (look : Nat), m = t.mounting.params →
        plan = planTarget t.plan v.dFace → look = t.steering.params.lookahead →
          RoundedQuotient (openMean m v .x * look) 100000 ((steeringErrors t v).ex + plan.x - faceOffset m v false)
            ∧ RoundedQuotient (openMean m v .y * look) 100000 ((steeringErrors t v).ey + plan.y - faceOffset m v true)
            ∧ (steeringErrors t v).w = openMean m v .twist - plan.twist

/-- The plan target, over counted rows of rising depth: the first row's at or above it, the last row's at or below it,
between two rows interpolated with one rounding, and 0 with a count of 0. -/
def Obligations.PlanTargetIsInterpolated : Prop :=
  ∀ (t : PlanTable) (d : Nat) (rows : List PlanRow), rows = t.rows.take t.count → planCheck rows = none →
    (rows = [] → planTarget t d = ⟨0, 0, 0⟩)
      ∧ (∀ r, rows.head? = some r → d ≤ r.depth → planTarget t d = ⟨r.x, r.y, r.twist⟩)
      ∧ (∀ r, rows.getLast? = some r → r.depth ≤ d → planTarget t d = ⟨r.x, r.y, r.twist⟩)
      ∧ ∀ (i : Nat) (a b : PlanRow), rows[i]? = some a → rows[i + 1]? = some b → a.depth ≤ d → d < b.depth →
          ∃ x y w : Int, planTarget t d = ⟨a.x + x, a.y + y, a.twist + w⟩
            ∧ RoundedQuotient ((b.x - a.x) * ((d : Int) - a.depth)) (b.depth - a.depth) x
            ∧ RoundedQuotient ((b.y - a.y) * ((d : Int) - a.depth)) (b.depth - a.depth) y
            ∧ RoundedQuotient ((b.twist - a.twist) * ((d : Int) - a.depth)) (b.depth - a.depth) w

/-- The correction bands: over counted rows of rising edges, the output of the row with the largest edge at or below the
magnitude of the error, and 0 below the first edge; the differential carries the sign of the X error; each plate's target
is its Y part plus its twist part, limited to 1,000. -/
def Obligations.BandsGiveCorrections : Prop :=
  (∀ (bands : List Band) (m : Nat), bandCheck 1 bands = none →
      ((∀ b ∈ bands, m < b.edge) → bandOutput bands m = 0)
        ∧ ∀ (i : Nat) (b : Band), bands[i]? = some b → b.edge ≤ m →
            (∀ c, bands[i + 1]? = some c → m < c.edge) → bandOutput bands m = b.output)
    ∧ ∀ (t : SteeringTable) (ex ey w : Int) (eX eY eT : Nat),
        eX = bandOutput (t.bandsX.take t.params.nX) ex.natAbs → eY = bandOutput (t.bandsY.take t.params.nY) ey.natAbs →
          eT = bandOutput (t.bandsT.take t.params.nT) w.natAbs →
            (0 < ex → differential t ex = (eX : Int)) ∧ (ex < 0 → differential t ex = -(eX : Int))
              ∧ (ex = 0 → differential t ex = 0)
              ∧ plateTargets t ey w
                  = ⟨min 1000 ((if 0 < ey then eY else 0) + (if w < 0 then eT else 0)),
                      min 1000 ((if 0 < ey then eY else 0) + (if 0 < w then eT else 0)),
                      min 1000 ((if ey < 0 then eY else 0) + (if 0 < w then eT else 0)),
                      min 1000 ((if ey < 0 then eY else 0) + (if w < 0 then eT else 0))⟩

/-- The feed-forward duty over the counted points of a drum's curve that passes its check: at a point its duty, between
two points interpolated with one rounding, beyond the last point the last duty; within 0 to 1,000 when every duty is. -/
def Obligations.FeedForwardIsInterpolated : Prop :=
  ∀ (t : DrumTable) (d : Drum) (c : Nat) (points : List CurvePoint),
    points = (match d with | .left => t.curveL.take t.params.nL | .right => t.curveR.take t.params.nR) →
      curveCheck 1 points = none →
        (∀ p ∈ points, p.speed = c → feedForward t d c = (p.duty : Int))
          ∧ (∀ p, points.getLast? = some p → p.speed ≤ c → feedForward t d c = (p.duty : Int))
          ∧ (∀ (i : Nat) (a b : CurvePoint), points[i]? = some a → points[i + 1]? = some b → a.speed ≤ c → c < b.speed →
              ∃ q : Int, feedForward t d c = (a.duty : Int) + q
                ∧ RoundedQuotient (((b.duty : Int) - a.duty) * ((c : Int) - a.speed)) (b.speed - a.speed) q)
          ∧ ((∀ p ∈ points, p.duty ≤ 1000) → 0 ≤ feedForward t d c ∧ feedForward t d c ≤ 1000)

/-- The composed targets: from the base, the lesser of the setpoint and N_max, half the differential is added on drum L and
taken from drum R, the odd unit going to drum L; an excess over N_max is taken from both, neither stays below 0, and the load
factor scales each. With a base of 0 both are 0. They are never above N_max with a load factor up to 1,000, and the
differential is kept whole under a full load factor when it fits under N_max and its half under the base. -/
def Obligations.ComposedTargetsKeepDifferential : Prop :=
  ∀ (nSet nMax f : Nat) (deltaN : Int),
    (nSet = 0 ∨ nMax = 0 → ∀ d : Drum, composedTarget nSet nMax deltaN f d = 0)
      ∧ (∀ base left right excess : Int, base = min (nSet : Int) nMax → base ≠ 0 →
          left = base + (deltaN - deltaN.tdiv 2) → right = base - deltaN.tdiv 2 →
            excess = max 0 (max left right - nMax) →
              (composedTarget nSet nMax deltaN f .left : Int) = max 0 (left - excess) * f / 1000
                ∧ (composedTarget nSet nMax deltaN f .right : Int) = max 0 (right - excess) * f / 1000)
      ∧ (f ≤ 1000 → ∀ d : Drum, composedTarget nSet nMax deltaN f d ≤ nMax)
      ∧ (∀ d : Drum,
          composedTarget nSet nMax deltaN f d = composedTarget nSet nMax deltaN 1000 d * f / 1000)
      ∧ (1 ≤ nSet → deltaN.natAbs ≤ nMax → (deltaN.natAbs + 1) / 2 ≤ min nSet nMax → 1 ≤ nMax →
          (composedTarget nSet nMax deltaN 1000 .left : Int) - composedTarget nSet nMax deltaN 1000 .right = deltaN)

/-- The figures of the slurry return. The load level after the two passes, with the thresholds in the order the table
requires, is raised to the number of rising thresholds the account has reached, and lowered to the number of falling
thresholds it has. The load factor is that of the level in RUN with an ALIVE node, and else at most the no-return factor.
The concentration is the truncated per-mille of solids, limited to 0 to 1,000. -/
def Obligations.SlurryFiguresAreFormed : Prop :=
  (∀ (t : SlurryTable) (account level : Nat), slurryHolds t = true → level ≤ 3 →
      levelAfter t.levels account level
        = min
            ((if t.levels.dn1 ≤ account then 1 else 0) + (if t.levels.dn2 ≤ account then 1 else 0)
              + (if t.levels.dn3 ≤ account then 1 else 0))
            (max level
              ((if t.levels.up1 ≤ account then 1 else 0) + (if t.levels.up2 ≤ account then 1 else 0)
                + (if t.levels.up3 ≤ account then 1 else 0))))
    ∧ (∀ (s : State) (l : SlurryLevels) (factor : Nat), l = s.tst.active.slurry.levels →
        (s.sru.level = 0 ∧ factor = l.f0) ∨ (s.sru.level = 1 ∧ factor = l.f1) ∨ (s.sru.level = 2 ∧ factor = l.f2)
            ∨ (s.sru.level = 3 ∧ factor = l.f3) →
          loadFactor s
            = if s.sru.pump = .run ∧ roleAlive .slurry s = true then factor else min factor l.noReturnFactor)
    ∧ ∀ density supply solids : Nat, supply < solids →
        (density ≤ supply → concentration density supply solids = 0)
          ∧ (supply ≤ density → density ≤ solids →
              concentration density supply solids * (solids - supply) ≤ 1000 * (density - supply)
                ∧ 1000 * (density - supply) < (concentration density supply solids + 1) * (solids - supply))
          ∧ (solids ≤ density → concentration density supply solids = 1000)

/-! ### What every step keeps -/

/-- Every condition the invariants name holds right after reset. -/
def Obligations.ResetIsSafe : Prop :=
  platesSafe State.reset ∧ governorsSafe State.reset ∧ speedsWithinLimit State.reset ∧ banksInRange State.reset
    ∧ activePasses State.reset ∧ slurrySafe State.reset ∧ linkSafe State.reset ∧ queuesSafe State.reset
    ∧ logSafe State.reset

/-- No step makes a plate unsafe. -/
def Obligations.PlatesStaySafe : Prop :=
  ∀ s t : State, platesSafe s → step s = .next t → platesSafe t

/-- No step takes a table out of its ranges or an active table out of its checks, and none makes a governor unsafe or
takes a commanded speed above N_max. -/
def Obligations.TablesAndGovernorsStaySafe : Prop :=
  ∀ s t : State, banksInRange s → activePasses s → governorsSafe s → speedsWithinLimit s → step s = .next t →
    banksInRange t ∧ activePasses t ∧ governorsSafe t ∧ speedsWithinLimit t

/-- No step makes the Slurry Return Unit unsafe. -/
def Obligations.SlurryStaysSafe : Prop :=
  ∀ s t : State, banksInRange s → slurrySafe s → step s = .next t → slurrySafe t

/-- No step makes the link port inconsistent. -/
def Obligations.LinkStaysConsistent : Prop :=
  ∀ s t : State, linkSafe s → step s = .next t → linkSafe t

/-- No step takes a queue past its capacity. -/
def Obligations.QueuesKeepCapacity : Prop :=
  ∀ s t : State, queuesSafe s → step s = .next t → queuesSafe t

/-- No step leaves the Drift Log malformed. -/
def Obligations.DriftLogStaysFormed : Prop :=
  ∀ s t : State, banksInRange s → logSafe s → step s = .next t → logSafe t

/-- What only its own command changes. A character of the downlink apart, which may complete any frame: only CLEAR and a
hardware reset take a unit out of LOCKOUT; only PANEL START and a hardware reset take a record out of the Drift Log, and
only CONTROL appends to it, at most one record; only TABLE ACTIVATE and a hardware reset change the active bank, and with them
only TABLE OPEN and TABLE WRITE the load bank. -/
def Obligations.GuardedStateKeepsItsCommands : Prop :=
  ∀ (c : Instr) (s t : State), exec c s = .next t → c ≠ .hardwareReset → (∀ ch, c ≠ .syncCharacter ch) →
    ((∀ tag selector, c ≠ .clear tag selector) →
        (∀ d : Drum, (s.governor d).state = .lockout → (t.governor d).state = .lockout)
          ∧ (s.sru.pump = .lockout → t.sru.pump = .lockout))
      ∧ ((∀ tag d0 ox oy, c ≠ .panelStart tag d0 ox oy) → (∀ tag f, c ≠ .control tag f) → t.vtr.log = s.vtr.log)
      ∧ ((∀ tag d0 ox oy, c ≠ .panelStart tag d0 ox oy) →
          t.vtr.log = s.vtr.log ∨ ∃ r, t.vtr.log = s.vtr.log ++ [r])
      ∧ ((∀ tag table, c ≠ .tableActivate tag table) → t.tst.active = s.tst.active)
      ∧ ((∀ tag table, c ≠ .tableOpen tag table) → (∀ tag table row fields, c ≠ .tableWrite tag table row fields) →
          t.tst.load = s.tst.load)
end

