-- ==== Sys2Proof/Laws/State.lean ====
section
/-! SUPPORT. One lemma per field per update of State: what an update leaves and what it sets, so that no proof unfolds a
record update. -/

namespace Sys2Proof.Machine

/-! ### setHeadTime -/

@[simp] theorem State.setHeadTime_headTime (s : State) (t : HeadTime) : (s.setHeadTime t).headTime = t := rfl
@[simp] theorem State.setHeadTime_vtr (s : State) (t : HeadTime) : (s.setHeadTime t).vtr = s.vtr := rfl
@[simp] theorem State.setHeadTime_spl (s : State) (t : HeadTime) : (s.setHeadTime t).spl = s.spl := rfl
@[simp] theorem State.setHeadTime_governorL (s : State) (t : HeadTime) : (s.setHeadTime t).governorL = s.governorL := rfl
@[simp] theorem State.setHeadTime_governorR (s : State) (t : HeadTime) : (s.setHeadTime t).governorR = s.governorR := rfl
@[simp] theorem State.setHeadTime_nSet (s : State) (t : HeadTime) : (s.setHeadTime t).nSet = s.nSet := rfl
@[simp] theorem State.setHeadTime_sru (s : State) (t : HeadTime) : (s.setHeadTime t).sru = s.sru := rfl
@[simp] theorem State.setHeadTime_pps (s : State) (t : HeadTime) : (s.setHeadTime t).pps = s.pps := rfl
@[simp] theorem State.setHeadTime_sbm (s : State) (t : HeadTime) : (s.setHeadTime t).sbm = s.sbm := rfl
@[simp] theorem State.setHeadTime_tst (s : State) (t : HeadTime) : (s.setHeadTime t).tst = s.tst := rfl
@[simp] theorem State.setHeadTime_ulp (s : State) (t : HeadTime) : (s.setHeadTime t).ulp = s.ulp := rfl
@[simp] theorem State.setHeadTime_rpu (s : State) (t : HeadTime) : (s.setHeadTime t).rpu = s.rpu := rfl
@[simp] theorem State.setHeadTime_freeSeq (s : State) (t : HeadTime) : (s.setHeadTime t).freeSeq = s.freeSeq := rfl
@[simp] theorem State.setHeadTime_pending (s : State) (t : HeadTime) : (s.setHeadTime t).pending = s.pending := rfl
@[simp] theorem State.setHeadTime_governor (s : State) (t : HeadTime) (d : Drum) : (s.setHeadTime t).governor d = s.governor d := by
  cases d <;> rfl
@[simp] theorem State.setHeadTime_setHeadTime (s : State) (t : HeadTime) (t' : HeadTime) : (s.setHeadTime t).setHeadTime t' = s.setHeadTime t' := rfl

/-! ### setVtr -/

@[simp] theorem State.setVtr_headTime (s : State) (v : Vtr) : (s.setVtr v).headTime = s.headTime := rfl
@[simp] theorem State.setVtr_vtr (s : State) (v : Vtr) : (s.setVtr v).vtr = v := rfl
@[simp] theorem State.setVtr_spl (s : State) (v : Vtr) : (s.setVtr v).spl = s.spl := rfl
@[simp] theorem State.setVtr_governorL (s : State) (v : Vtr) : (s.setVtr v).governorL = s.governorL := rfl
@[simp] theorem State.setVtr_governorR (s : State) (v : Vtr) : (s.setVtr v).governorR = s.governorR := rfl
@[simp] theorem State.setVtr_nSet (s : State) (v : Vtr) : (s.setVtr v).nSet = s.nSet := rfl
@[simp] theorem State.setVtr_sru (s : State) (v : Vtr) : (s.setVtr v).sru = s.sru := rfl
@[simp] theorem State.setVtr_pps (s : State) (v : Vtr) : (s.setVtr v).pps = s.pps := rfl
@[simp] theorem State.setVtr_sbm (s : State) (v : Vtr) : (s.setVtr v).sbm = s.sbm := rfl
@[simp] theorem State.setVtr_tst (s : State) (v : Vtr) : (s.setVtr v).tst = s.tst := rfl
@[simp] theorem State.setVtr_ulp (s : State) (v : Vtr) : (s.setVtr v).ulp = s.ulp := rfl
@[simp] theorem State.setVtr_rpu (s : State) (v : Vtr) : (s.setVtr v).rpu = s.rpu := rfl
@[simp] theorem State.setVtr_freeSeq (s : State) (v : Vtr) : (s.setVtr v).freeSeq = s.freeSeq := rfl
@[simp] theorem State.setVtr_pending (s : State) (v : Vtr) : (s.setVtr v).pending = s.pending := rfl
@[simp] theorem State.setVtr_governor (s : State) (v : Vtr) (d : Drum) : (s.setVtr v).governor d = s.governor d := by
  cases d <;> rfl
@[simp] theorem State.setVtr_setVtr (s : State) (v : Vtr) (v' : Vtr) : (s.setVtr v).setVtr v' = s.setVtr v' := rfl

/-! ### setSpl -/

@[simp] theorem State.setSpl_headTime (s : State) (p : Spl) : (s.setSpl p).headTime = s.headTime := rfl
@[simp] theorem State.setSpl_vtr (s : State) (p : Spl) : (s.setSpl p).vtr = s.vtr := rfl
@[simp] theorem State.setSpl_spl (s : State) (p : Spl) : (s.setSpl p).spl = p := rfl
@[simp] theorem State.setSpl_governorL (s : State) (p : Spl) : (s.setSpl p).governorL = s.governorL := rfl
@[simp] theorem State.setSpl_governorR (s : State) (p : Spl) : (s.setSpl p).governorR = s.governorR := rfl
@[simp] theorem State.setSpl_nSet (s : State) (p : Spl) : (s.setSpl p).nSet = s.nSet := rfl
@[simp] theorem State.setSpl_sru (s : State) (p : Spl) : (s.setSpl p).sru = s.sru := rfl
@[simp] theorem State.setSpl_pps (s : State) (p : Spl) : (s.setSpl p).pps = s.pps := rfl
@[simp] theorem State.setSpl_sbm (s : State) (p : Spl) : (s.setSpl p).sbm = s.sbm := rfl
@[simp] theorem State.setSpl_tst (s : State) (p : Spl) : (s.setSpl p).tst = s.tst := rfl
@[simp] theorem State.setSpl_ulp (s : State) (p : Spl) : (s.setSpl p).ulp = s.ulp := rfl
@[simp] theorem State.setSpl_rpu (s : State) (p : Spl) : (s.setSpl p).rpu = s.rpu := rfl
@[simp] theorem State.setSpl_freeSeq (s : State) (p : Spl) : (s.setSpl p).freeSeq = s.freeSeq := rfl
@[simp] theorem State.setSpl_pending (s : State) (p : Spl) : (s.setSpl p).pending = s.pending := rfl
@[simp] theorem State.setSpl_governor (s : State) (p : Spl) (d : Drum) : (s.setSpl p).governor d = s.governor d := by
  cases d <;> rfl
@[simp] theorem State.setSpl_setSpl (s : State) (p : Spl) (p' : Spl) : (s.setSpl p).setSpl p' = s.setSpl p' := rfl

/-! ### setNSet -/

@[simp] theorem State.setNSet_headTime (s : State) (n : Nat) : (s.setNSet n).headTime = s.headTime := rfl
@[simp] theorem State.setNSet_vtr (s : State) (n : Nat) : (s.setNSet n).vtr = s.vtr := rfl
@[simp] theorem State.setNSet_spl (s : State) (n : Nat) : (s.setNSet n).spl = s.spl := rfl
@[simp] theorem State.setNSet_governorL (s : State) (n : Nat) : (s.setNSet n).governorL = s.governorL := rfl
@[simp] theorem State.setNSet_governorR (s : State) (n : Nat) : (s.setNSet n).governorR = s.governorR := rfl
@[simp] theorem State.setNSet_nSet (s : State) (n : Nat) : (s.setNSet n).nSet = n := rfl
@[simp] theorem State.setNSet_sru (s : State) (n : Nat) : (s.setNSet n).sru = s.sru := rfl
@[simp] theorem State.setNSet_pps (s : State) (n : Nat) : (s.setNSet n).pps = s.pps := rfl
@[simp] theorem State.setNSet_sbm (s : State) (n : Nat) : (s.setNSet n).sbm = s.sbm := rfl
@[simp] theorem State.setNSet_tst (s : State) (n : Nat) : (s.setNSet n).tst = s.tst := rfl
@[simp] theorem State.setNSet_ulp (s : State) (n : Nat) : (s.setNSet n).ulp = s.ulp := rfl
@[simp] theorem State.setNSet_rpu (s : State) (n : Nat) : (s.setNSet n).rpu = s.rpu := rfl
@[simp] theorem State.setNSet_freeSeq (s : State) (n : Nat) : (s.setNSet n).freeSeq = s.freeSeq := rfl
@[simp] theorem State.setNSet_pending (s : State) (n : Nat) : (s.setNSet n).pending = s.pending := rfl
@[simp] theorem State.setNSet_governor (s : State) (n : Nat) (d : Drum) : (s.setNSet n).governor d = s.governor d := by
  cases d <;> rfl
@[simp] theorem State.setNSet_setNSet (s : State) (n : Nat) (n' : Nat) : (s.setNSet n).setNSet n' = s.setNSet n' := rfl

/-! ### setSru -/

@[simp] theorem State.setSru_headTime (s : State) (u : Sru) : (s.setSru u).headTime = s.headTime := rfl
@[simp] theorem State.setSru_vtr (s : State) (u : Sru) : (s.setSru u).vtr = s.vtr := rfl
@[simp] theorem State.setSru_spl (s : State) (u : Sru) : (s.setSru u).spl = s.spl := rfl
@[simp] theorem State.setSru_governorL (s : State) (u : Sru) : (s.setSru u).governorL = s.governorL := rfl
@[simp] theorem State.setSru_governorR (s : State) (u : Sru) : (s.setSru u).governorR = s.governorR := rfl
@[simp] theorem State.setSru_nSet (s : State) (u : Sru) : (s.setSru u).nSet = s.nSet := rfl
@[simp] theorem State.setSru_sru (s : State) (u : Sru) : (s.setSru u).sru = u := rfl
@[simp] theorem State.setSru_pps (s : State) (u : Sru) : (s.setSru u).pps = s.pps := rfl
@[simp] theorem State.setSru_sbm (s : State) (u : Sru) : (s.setSru u).sbm = s.sbm := rfl
@[simp] theorem State.setSru_tst (s : State) (u : Sru) : (s.setSru u).tst = s.tst := rfl
@[simp] theorem State.setSru_ulp (s : State) (u : Sru) : (s.setSru u).ulp = s.ulp := rfl
@[simp] theorem State.setSru_rpu (s : State) (u : Sru) : (s.setSru u).rpu = s.rpu := rfl
@[simp] theorem State.setSru_freeSeq (s : State) (u : Sru) : (s.setSru u).freeSeq = s.freeSeq := rfl
@[simp] theorem State.setSru_pending (s : State) (u : Sru) : (s.setSru u).pending = s.pending := rfl
@[simp] theorem State.setSru_governor (s : State) (u : Sru) (d : Drum) : (s.setSru u).governor d = s.governor d := by
  cases d <;> rfl
@[simp] theorem State.setSru_setSru (s : State) (u : Sru) (u' : Sru) : (s.setSru u).setSru u' = s.setSru u' := rfl

/-! ### setPps -/

@[simp] theorem State.setPps_headTime (s : State) (p : Pps) : (s.setPps p).headTime = s.headTime := rfl
@[simp] theorem State.setPps_vtr (s : State) (p : Pps) : (s.setPps p).vtr = s.vtr := rfl
@[simp] theorem State.setPps_spl (s : State) (p : Pps) : (s.setPps p).spl = s.spl := rfl
@[simp] theorem State.setPps_governorL (s : State) (p : Pps) : (s.setPps p).governorL = s.governorL := rfl
@[simp] theorem State.setPps_governorR (s : State) (p : Pps) : (s.setPps p).governorR = s.governorR := rfl
@[simp] theorem State.setPps_nSet (s : State) (p : Pps) : (s.setPps p).nSet = s.nSet := rfl
@[simp] theorem State.setPps_sru (s : State) (p : Pps) : (s.setPps p).sru = s.sru := rfl
@[simp] theorem State.setPps_pps (s : State) (p : Pps) : (s.setPps p).pps = p := rfl
@[simp] theorem State.setPps_sbm (s : State) (p : Pps) : (s.setPps p).sbm = s.sbm := rfl
@[simp] theorem State.setPps_tst (s : State) (p : Pps) : (s.setPps p).tst = s.tst := rfl
@[simp] theorem State.setPps_ulp (s : State) (p : Pps) : (s.setPps p).ulp = s.ulp := rfl
@[simp] theorem State.setPps_rpu (s : State) (p : Pps) : (s.setPps p).rpu = s.rpu := rfl
@[simp] theorem State.setPps_freeSeq (s : State) (p : Pps) : (s.setPps p).freeSeq = s.freeSeq := rfl
@[simp] theorem State.setPps_pending (s : State) (p : Pps) : (s.setPps p).pending = s.pending := rfl
@[simp] theorem State.setPps_governor (s : State) (p : Pps) (d : Drum) : (s.setPps p).governor d = s.governor d := by
  cases d <;> rfl
@[simp] theorem State.setPps_setPps (s : State) (p : Pps) (p' : Pps) : (s.setPps p).setPps p' = s.setPps p' := rfl

/-! ### setSbm -/

@[simp] theorem State.setSbm_headTime (s : State) (b : Sbm) : (s.setSbm b).headTime = s.headTime := rfl
@[simp] theorem State.setSbm_vtr (s : State) (b : Sbm) : (s.setSbm b).vtr = s.vtr := rfl
@[simp] theorem State.setSbm_spl (s : State) (b : Sbm) : (s.setSbm b).spl = s.spl := rfl
@[simp] theorem State.setSbm_governorL (s : State) (b : Sbm) : (s.setSbm b).governorL = s.governorL := rfl
@[simp] theorem State.setSbm_governorR (s : State) (b : Sbm) : (s.setSbm b).governorR = s.governorR := rfl
@[simp] theorem State.setSbm_nSet (s : State) (b : Sbm) : (s.setSbm b).nSet = s.nSet := rfl
@[simp] theorem State.setSbm_sru (s : State) (b : Sbm) : (s.setSbm b).sru = s.sru := rfl
@[simp] theorem State.setSbm_pps (s : State) (b : Sbm) : (s.setSbm b).pps = s.pps := rfl
@[simp] theorem State.setSbm_sbm (s : State) (b : Sbm) : (s.setSbm b).sbm = b := rfl
@[simp] theorem State.setSbm_tst (s : State) (b : Sbm) : (s.setSbm b).tst = s.tst := rfl
@[simp] theorem State.setSbm_ulp (s : State) (b : Sbm) : (s.setSbm b).ulp = s.ulp := rfl
@[simp] theorem State.setSbm_rpu (s : State) (b : Sbm) : (s.setSbm b).rpu = s.rpu := rfl
@[simp] theorem State.setSbm_freeSeq (s : State) (b : Sbm) : (s.setSbm b).freeSeq = s.freeSeq := rfl
@[simp] theorem State.setSbm_pending (s : State) (b : Sbm) : (s.setSbm b).pending = s.pending := rfl
@[simp] theorem State.setSbm_governor (s : State) (b : Sbm) (d : Drum) : (s.setSbm b).governor d = s.governor d := by
  cases d <;> rfl
@[simp] theorem State.setSbm_setSbm (s : State) (b : Sbm) (b' : Sbm) : (s.setSbm b).setSbm b' = s.setSbm b' := rfl

/-! ### setTst -/

@[simp] theorem State.setTst_headTime (s : State) (x : Tst) : (s.setTst x).headTime = s.headTime := rfl
@[simp] theorem State.setTst_vtr (s : State) (x : Tst) : (s.setTst x).vtr = s.vtr := rfl
@[simp] theorem State.setTst_spl (s : State) (x : Tst) : (s.setTst x).spl = s.spl := rfl
@[simp] theorem State.setTst_governorL (s : State) (x : Tst) : (s.setTst x).governorL = s.governorL := rfl
@[simp] theorem State.setTst_governorR (s : State) (x : Tst) : (s.setTst x).governorR = s.governorR := rfl
@[simp] theorem State.setTst_nSet (s : State) (x : Tst) : (s.setTst x).nSet = s.nSet := rfl
@[simp] theorem State.setTst_sru (s : State) (x : Tst) : (s.setTst x).sru = s.sru := rfl
@[simp] theorem State.setTst_pps (s : State) (x : Tst) : (s.setTst x).pps = s.pps := rfl
@[simp] theorem State.setTst_sbm (s : State) (x : Tst) : (s.setTst x).sbm = s.sbm := rfl
@[simp] theorem State.setTst_tst (s : State) (x : Tst) : (s.setTst x).tst = x := rfl
@[simp] theorem State.setTst_ulp (s : State) (x : Tst) : (s.setTst x).ulp = s.ulp := rfl
@[simp] theorem State.setTst_rpu (s : State) (x : Tst) : (s.setTst x).rpu = s.rpu := rfl
@[simp] theorem State.setTst_freeSeq (s : State) (x : Tst) : (s.setTst x).freeSeq = s.freeSeq := rfl
@[simp] theorem State.setTst_pending (s : State) (x : Tst) : (s.setTst x).pending = s.pending := rfl
@[simp] theorem State.setTst_governor (s : State) (x : Tst) (d : Drum) : (s.setTst x).governor d = s.governor d := by
  cases d <;> rfl
@[simp] theorem State.setTst_setTst (s : State) (x : Tst) (x' : Tst) : (s.setTst x).setTst x' = s.setTst x' := rfl

/-! ### setUlp -/

@[simp] theorem State.setUlp_headTime (s : State) (u : Ulp) : (s.setUlp u).headTime = s.headTime := rfl
@[simp] theorem State.setUlp_vtr (s : State) (u : Ulp) : (s.setUlp u).vtr = s.vtr := rfl
@[simp] theorem State.setUlp_spl (s : State) (u : Ulp) : (s.setUlp u).spl = s.spl := rfl
@[simp] theorem State.setUlp_governorL (s : State) (u : Ulp) : (s.setUlp u).governorL = s.governorL := rfl
@[simp] theorem State.setUlp_governorR (s : State) (u : Ulp) : (s.setUlp u).governorR = s.governorR := rfl
@[simp] theorem State.setUlp_nSet (s : State) (u : Ulp) : (s.setUlp u).nSet = s.nSet := rfl
@[simp] theorem State.setUlp_sru (s : State) (u : Ulp) : (s.setUlp u).sru = s.sru := rfl
@[simp] theorem State.setUlp_pps (s : State) (u : Ulp) : (s.setUlp u).pps = s.pps := rfl
@[simp] theorem State.setUlp_sbm (s : State) (u : Ulp) : (s.setUlp u).sbm = s.sbm := rfl
@[simp] theorem State.setUlp_tst (s : State) (u : Ulp) : (s.setUlp u).tst = s.tst := rfl
@[simp] theorem State.setUlp_ulp (s : State) (u : Ulp) : (s.setUlp u).ulp = u := rfl
@[simp] theorem State.setUlp_rpu (s : State) (u : Ulp) : (s.setUlp u).rpu = s.rpu := rfl
@[simp] theorem State.setUlp_freeSeq (s : State) (u : Ulp) : (s.setUlp u).freeSeq = s.freeSeq := rfl
@[simp] theorem State.setUlp_pending (s : State) (u : Ulp) : (s.setUlp u).pending = s.pending := rfl
@[simp] theorem State.setUlp_governor (s : State) (u : Ulp) (d : Drum) : (s.setUlp u).governor d = s.governor d := by
  cases d <;> rfl
@[simp] theorem State.setUlp_setUlp (s : State) (u : Ulp) (u' : Ulp) : (s.setUlp u).setUlp u' = s.setUlp u' := rfl

/-! ### setRpu -/

@[simp] theorem State.setRpu_headTime (s : State) (r : Rpu) : (s.setRpu r).headTime = s.headTime := rfl
@[simp] theorem State.setRpu_vtr (s : State) (r : Rpu) : (s.setRpu r).vtr = s.vtr := rfl
@[simp] theorem State.setRpu_spl (s : State) (r : Rpu) : (s.setRpu r).spl = s.spl := rfl
@[simp] theorem State.setRpu_governorL (s : State) (r : Rpu) : (s.setRpu r).governorL = s.governorL := rfl
@[simp] theorem State.setRpu_governorR (s : State) (r : Rpu) : (s.setRpu r).governorR = s.governorR := rfl
@[simp] theorem State.setRpu_nSet (s : State) (r : Rpu) : (s.setRpu r).nSet = s.nSet := rfl
@[simp] theorem State.setRpu_sru (s : State) (r : Rpu) : (s.setRpu r).sru = s.sru := rfl
@[simp] theorem State.setRpu_pps (s : State) (r : Rpu) : (s.setRpu r).pps = s.pps := rfl
@[simp] theorem State.setRpu_sbm (s : State) (r : Rpu) : (s.setRpu r).sbm = s.sbm := rfl
@[simp] theorem State.setRpu_tst (s : State) (r : Rpu) : (s.setRpu r).tst = s.tst := rfl
@[simp] theorem State.setRpu_ulp (s : State) (r : Rpu) : (s.setRpu r).ulp = s.ulp := rfl
@[simp] theorem State.setRpu_rpu (s : State) (r : Rpu) : (s.setRpu r).rpu = r := rfl
@[simp] theorem State.setRpu_freeSeq (s : State) (r : Rpu) : (s.setRpu r).freeSeq = s.freeSeq := rfl
@[simp] theorem State.setRpu_pending (s : State) (r : Rpu) : (s.setRpu r).pending = s.pending := rfl
@[simp] theorem State.setRpu_governor (s : State) (r : Rpu) (d : Drum) : (s.setRpu r).governor d = s.governor d := by
  cases d <;> rfl
@[simp] theorem State.setRpu_setRpu (s : State) (r : Rpu) (r' : Rpu) : (s.setRpu r).setRpu r' = s.setRpu r' := rfl

/-! ### setPending -/

@[simp] theorem State.setPending_headTime (s : State) (q : List Instr) : (s.setPending q).headTime = s.headTime := rfl
@[simp] theorem State.setPending_vtr (s : State) (q : List Instr) : (s.setPending q).vtr = s.vtr := rfl
@[simp] theorem State.setPending_spl (s : State) (q : List Instr) : (s.setPending q).spl = s.spl := rfl
@[simp] theorem State.setPending_governorL (s : State) (q : List Instr) : (s.setPending q).governorL = s.governorL := rfl
@[simp] theorem State.setPending_governorR (s : State) (q : List Instr) : (s.setPending q).governorR = s.governorR := rfl
@[simp] theorem State.setPending_nSet (s : State) (q : List Instr) : (s.setPending q).nSet = s.nSet := rfl
@[simp] theorem State.setPending_sru (s : State) (q : List Instr) : (s.setPending q).sru = s.sru := rfl
@[simp] theorem State.setPending_pps (s : State) (q : List Instr) : (s.setPending q).pps = s.pps := rfl
@[simp] theorem State.setPending_sbm (s : State) (q : List Instr) : (s.setPending q).sbm = s.sbm := rfl
@[simp] theorem State.setPending_tst (s : State) (q : List Instr) : (s.setPending q).tst = s.tst := rfl
@[simp] theorem State.setPending_ulp (s : State) (q : List Instr) : (s.setPending q).ulp = s.ulp := rfl
@[simp] theorem State.setPending_rpu (s : State) (q : List Instr) : (s.setPending q).rpu = s.rpu := rfl
@[simp] theorem State.setPending_freeSeq (s : State) (q : List Instr) : (s.setPending q).freeSeq = s.freeSeq := rfl
@[simp] theorem State.setPending_pending (s : State) (q : List Instr) : (s.setPending q).pending = q := rfl
@[simp] theorem State.setPending_governor (s : State) (q : List Instr) (d : Drum) : (s.setPending q).governor d = s.governor d := by
  cases d <;> rfl
@[simp] theorem State.setPending_setPending (s : State) (q : List Instr) (q' : List Instr) : (s.setPending q).setPending q' = s.setPending q' := rfl

/-! ### nextFree -/

@[simp] theorem State.nextFree_headTime (s : State) : s.nextFree.headTime = s.headTime := rfl
@[simp] theorem State.nextFree_vtr (s : State) : s.nextFree.vtr = s.vtr := rfl
@[simp] theorem State.nextFree_spl (s : State) : s.nextFree.spl = s.spl := rfl
@[simp] theorem State.nextFree_governorL (s : State) : s.nextFree.governorL = s.governorL := rfl
@[simp] theorem State.nextFree_governorR (s : State) : s.nextFree.governorR = s.governorR := rfl
@[simp] theorem State.nextFree_nSet (s : State) : s.nextFree.nSet = s.nSet := rfl
@[simp] theorem State.nextFree_sru (s : State) : s.nextFree.sru = s.sru := rfl
@[simp] theorem State.nextFree_pps (s : State) : s.nextFree.pps = s.pps := rfl
@[simp] theorem State.nextFree_sbm (s : State) : s.nextFree.sbm = s.sbm := rfl
@[simp] theorem State.nextFree_tst (s : State) : s.nextFree.tst = s.tst := rfl
@[simp] theorem State.nextFree_ulp (s : State) : s.nextFree.ulp = s.ulp := rfl
@[simp] theorem State.nextFree_rpu (s : State) : s.nextFree.rpu = s.rpu := rfl
@[simp] theorem State.nextFree_freeSeq (s : State) : s.nextFree.freeSeq = s.freeSeq + 1 := rfl
@[simp] theorem State.nextFree_pending (s : State) : s.nextFree.pending = s.pending := rfl
@[simp] theorem State.nextFree_governor (s : State) (d : Drum) : s.nextFree.governor d = s.governor d := by
  cases d <;> rfl

/-! ### setGovernor -/

@[simp] theorem State.setGovernor_headTime (s : State) (d : Drum) (g : Governor) : (s.setGovernor d g).headTime = s.headTime := by
  cases d <;> rfl
@[simp] theorem State.setGovernor_vtr (s : State) (d : Drum) (g : Governor) : (s.setGovernor d g).vtr = s.vtr := by
  cases d <;> rfl
@[simp] theorem State.setGovernor_spl (s : State) (d : Drum) (g : Governor) : (s.setGovernor d g).spl = s.spl := by
  cases d <;> rfl
@[simp] theorem State.setGovernor_nSet (s : State) (d : Drum) (g : Governor) : (s.setGovernor d g).nSet = s.nSet := by
  cases d <;> rfl
@[simp] theorem State.setGovernor_sru (s : State) (d : Drum) (g : Governor) : (s.setGovernor d g).sru = s.sru := by
  cases d <;> rfl
@[simp] theorem State.setGovernor_pps (s : State) (d : Drum) (g : Governor) : (s.setGovernor d g).pps = s.pps := by
  cases d <;> rfl
@[simp] theorem State.setGovernor_sbm (s : State) (d : Drum) (g : Governor) : (s.setGovernor d g).sbm = s.sbm := by
  cases d <;> rfl
@[simp] theorem State.setGovernor_tst (s : State) (d : Drum) (g : Governor) : (s.setGovernor d g).tst = s.tst := by
  cases d <;> rfl
@[simp] theorem State.setGovernor_ulp (s : State) (d : Drum) (g : Governor) : (s.setGovernor d g).ulp = s.ulp := by
  cases d <;> rfl
@[simp] theorem State.setGovernor_rpu (s : State) (d : Drum) (g : Governor) : (s.setGovernor d g).rpu = s.rpu := by
  cases d <;> rfl
@[simp] theorem State.setGovernor_freeSeq (s : State) (d : Drum) (g : Governor) : (s.setGovernor d g).freeSeq = s.freeSeq := by
  cases d <;> rfl
@[simp] theorem State.setGovernor_pending (s : State) (d : Drum) (g : Governor) : (s.setGovernor d g).pending = s.pending := by
  cases d <;> rfl
@[simp] theorem State.governor_left (s : State) : s.governor .left = s.governorL := rfl
@[simp] theorem State.governor_right (s : State) : s.governor .right = s.governorR := rfl
@[simp] theorem State.setGovernor_governor (s : State) (d e : Drum) (g : Governor) :
    (s.setGovernor d g).governor e = if e = d then g else s.governor e := by
  cases d <;> cases e <;> rfl
@[simp] theorem State.setGovernor_left_governorL (s : State) (g : Governor) : (s.setGovernor .left g).governorL = g := rfl
@[simp] theorem State.setGovernor_left_governorR (s : State) (g : Governor) :
    (s.setGovernor .left g).governorR = s.governorR := rfl
@[simp] theorem State.setGovernor_right_governorL (s : State) (g : Governor) :
    (s.setGovernor .right g).governorL = s.governorL := rfl
@[simp] theorem State.setGovernor_right_governorR (s : State) (g : Governor) : (s.setGovernor .right g).governorR = g := rfl

/-! ### Readings that an update leaves, when it leaves what they read -/

@[simp] theorem online_setHeadTime (s : State) (t : HeadTime) : online (s.setHeadTime t) = online s := rfl
@[simp] theorem effectiveMode_setHeadTime (s : State) (t : HeadTime) : effectiveMode (s.setHeadTime t) = effectiveMode s := rfl
@[simp] theorem roleAlive_setHeadTime (s : State) (t : HeadTime) (k : Role) : roleAlive k (s.setHeadTime t) = roleAlive k s := rfl
@[simp] theorem occupiedPlaces_setHeadTime (s : State) (t : HeadTime) : occupiedPlaces (s.setHeadTime t) = occupiedPlaces s := rfl
@[simp] theorem online_setVtr (s : State) (v : Vtr) : online (s.setVtr v) = online s := rfl
@[simp] theorem effectiveMode_setVtr (s : State) (v : Vtr) : effectiveMode (s.setVtr v) = effectiveMode s := rfl
@[simp] theorem roleAlive_setVtr (s : State) (v : Vtr) (k : Role) : roleAlive k (s.setVtr v) = roleAlive k s := rfl
@[simp] theorem occupiedPlaces_setVtr (s : State) (v : Vtr) : occupiedPlaces (s.setVtr v) = occupiedPlaces s := rfl
@[simp] theorem online_setSpl (s : State) (p : Spl) : online (s.setSpl p) = online s := rfl
@[simp] theorem effectiveMode_setSpl (s : State) (p : Spl) : effectiveMode (s.setSpl p) = effectiveMode s := rfl
@[simp] theorem roleAlive_setSpl (s : State) (p : Spl) (k : Role) : roleAlive k (s.setSpl p) = roleAlive k s := rfl
@[simp] theorem occupiedPlaces_setSpl (s : State) (p : Spl) : occupiedPlaces (s.setSpl p) = occupiedPlaces s := rfl
@[simp] theorem online_setNSet (s : State) (n : Nat) : online (s.setNSet n) = online s := rfl
@[simp] theorem effectiveMode_setNSet (s : State) (n : Nat) : effectiveMode (s.setNSet n) = effectiveMode s := rfl
@[simp] theorem roleAlive_setNSet (s : State) (n : Nat) (k : Role) : roleAlive k (s.setNSet n) = roleAlive k s := rfl
@[simp] theorem occupiedPlaces_setNSet (s : State) (n : Nat) : occupiedPlaces (s.setNSet n) = occupiedPlaces s := rfl
@[simp] theorem online_setSru (s : State) (u : Sru) : online (s.setSru u) = online s := rfl
@[simp] theorem effectiveMode_setSru (s : State) (u : Sru) : effectiveMode (s.setSru u) = effectiveMode s := rfl
@[simp] theorem roleAlive_setSru (s : State) (u : Sru) (k : Role) : roleAlive k (s.setSru u) = roleAlive k s := rfl
@[simp] theorem occupiedPlaces_setSru (s : State) (u : Sru) : occupiedPlaces (s.setSru u) = occupiedPlaces s := rfl
@[simp] theorem online_setPps (s : State) (p : Pps) : online (s.setPps p) = online s := rfl
@[simp] theorem roleAlive_setPps (s : State) (p : Pps) (k : Role) : roleAlive k (s.setPps p) = roleAlive k s := rfl
@[simp] theorem occupiedPlaces_setPps (s : State) (p : Pps) : occupiedPlaces (s.setPps p) = occupiedPlaces s := rfl
@[simp] theorem online_setSbm (s : State) (b : Sbm) : online (s.setSbm b) = online s := rfl
@[simp] theorem effectiveMode_setSbm (s : State) (b : Sbm) : effectiveMode (s.setSbm b) = effectiveMode s := rfl
@[simp] theorem online_setTst (s : State) (x : Tst) : online (s.setTst x) = online s := rfl
@[simp] theorem effectiveMode_setTst (s : State) (x : Tst) : effectiveMode (s.setTst x) = effectiveMode s := rfl
@[simp] theorem occupiedPlaces_setTst (s : State) (x : Tst) : occupiedPlaces (s.setTst x) = occupiedPlaces s := rfl
@[simp] theorem roleAlive_setUlp (s : State) (u : Ulp) (k : Role) : roleAlive k (s.setUlp u) = roleAlive k s := rfl
@[simp] theorem online_setRpu (s : State) (r : Rpu) : online (s.setRpu r) = online s := rfl
@[simp] theorem effectiveMode_setRpu (s : State) (r : Rpu) : effectiveMode (s.setRpu r) = effectiveMode s := rfl
@[simp] theorem roleAlive_setRpu (s : State) (r : Rpu) (k : Role) : roleAlive k (s.setRpu r) = roleAlive k s := rfl
@[simp] theorem occupiedPlaces_setRpu (s : State) (r : Rpu) : occupiedPlaces (s.setRpu r) = occupiedPlaces s := rfl
@[simp] theorem online_setPending (s : State) (q : List Instr) : online (s.setPending q) = online s := rfl
@[simp] theorem effectiveMode_setPending (s : State) (q : List Instr) : effectiveMode (s.setPending q) = effectiveMode s := rfl
@[simp] theorem roleAlive_setPending (s : State) (q : List Instr) (k : Role) : roleAlive k (s.setPending q) = roleAlive k s := rfl
@[simp] theorem occupiedPlaces_setPending (s : State) (q : List Instr) : occupiedPlaces (s.setPending q) = occupiedPlaces s := rfl
@[simp] theorem online_nextFree (s : State) : online s.nextFree = online s := rfl
@[simp] theorem effectiveMode_nextFree (s : State) : effectiveMode s.nextFree = effectiveMode s := rfl
@[simp] theorem online_setGovernor (s : State) (d : Drum) (g : Governor) : online (s.setGovernor d g) = online s := by
  cases d <;> rfl
@[simp] theorem effectiveMode_setGovernor (s : State) (d : Drum) (g : Governor) :
    effectiveMode (s.setGovernor d g) = effectiveMode s := by
  cases d <;> rfl
@[simp] theorem roleAlive_setGovernor (s : State) (d : Drum) (g : Governor) (r : Role) :
    roleAlive r (s.setGovernor d g) = roleAlive r s := by
  cases d <;> rfl

/-! ### Plates -/

@[simp] theorem Quad.get_mapPlates {α β : Type} (f : PlateId → α → β) (q : Quad α) (id : PlateId) :
    (q.mapPlates f).get id = f id (q.get id) := by
  cases id <;> rfl
@[simp] theorem Quad.get_all {α : Type} (a : α) (id : PlateId) : (Quad.all a).get id = a := by
  cases id <;> rfl
@[simp] theorem Quad.get_set {α : Type} (q : Quad α) (p id : PlateId) (a : α) :
    (q.set p a).get id = if id = p then a else q.get id := by
  cases p <;> cases id <;> rfl
theorem Quad.ext_get {α : Type} {q r : Quad α} (h : ∀ id, q.get id = r.get id) : q = r := by
  have h1 := h .p1
  have h2 := h .p2
  have h3 := h .p3
  have h4 := h .p4
  cases q
  cases r
  simp_all [Quad.get]

/-- Two states are equal when their fields are. -/
theorem State.eq_of_fields {s t : State} (h : t.headTime = s.headTime ∧ t.vtr = s.vtr ∧ t.spl = s.spl
    ∧ t.governorL = s.governorL ∧ t.governorR = s.governorR ∧ t.nSet = s.nSet ∧ t.sru = s.sru ∧ t.pps = s.pps
    ∧ t.sbm = s.sbm ∧ t.tst = s.tst ∧ t.ulp = s.ulp ∧ t.rpu = s.rpu ∧ t.freeSeq = s.freeSeq
    ∧ t.pending = s.pending) : t = s := by
  cases s
  cases t
  simp_all

end Sys2Proof.Machine
end

