-- ==== Sys2Proof/Laws/FrameOps.lean ====
section
/-! SUPPORT. The frames of the operations of Machine/Ops.lean: each field of State an operation leaves as it was. -/

namespace Sys2Proof.Machine

/-! ### post -/

@[simp] theorem post_headTime (k : EventKind) (c : EventSource) (v : Int) (s : State) :
    (post k c v s).headTime = s.headTime := by
  simp [post]
@[simp] theorem post_vtr (k : EventKind) (c : EventSource) (v : Int) (s : State) : (post k c v s).vtr = s.vtr := by
  simp [post]
@[simp] theorem post_spl (k : EventKind) (c : EventSource) (v : Int) (s : State) : (post k c v s).spl = s.spl := by
  simp [post]
@[simp] theorem post_governorL (k : EventKind) (c : EventSource) (v : Int) (s : State) :
    (post k c v s).governorL = s.governorL := by
  simp [post]
@[simp] theorem post_governorR (k : EventKind) (c : EventSource) (v : Int) (s : State) :
    (post k c v s).governorR = s.governorR := by
  simp [post]
@[simp] theorem post_governor (k : EventKind) (c : EventSource) (v : Int) (s : State) (drum : Drum) :
    (post k c v s).governor drum = s.governor drum := by
  cases drum <;> simp [State.governor]
@[simp] theorem post_nSet (k : EventKind) (c : EventSource) (v : Int) (s : State) : (post k c v s).nSet = s.nSet := by
  simp [post]
@[simp] theorem post_sru (k : EventKind) (c : EventSource) (v : Int) (s : State) : (post k c v s).sru = s.sru := by
  simp [post]
@[simp] theorem post_pps (k : EventKind) (c : EventSource) (v : Int) (s : State) : (post k c v s).pps = s.pps := by
  simp [post]
@[simp] theorem post_sbm (k : EventKind) (c : EventSource) (v : Int) (s : State) : (post k c v s).sbm = s.sbm := by
  simp [post]
@[simp] theorem post_tst (k : EventKind) (c : EventSource) (v : Int) (s : State) : (post k c v s).tst = s.tst := by
  simp [post]
@[simp] theorem post_ulp (k : EventKind) (c : EventSource) (v : Int) (s : State) : (post k c v s).ulp = s.ulp := by
  simp [post]
@[simp] theorem post_freeSeq (k : EventKind) (c : EventSource) (v : Int) (s : State) :
    (post k c v s).freeSeq = s.freeSeq := by
  simp [post]
@[simp] theorem post_pending (k : EventKind) (c : EventSource) (v : Int) (s : State) :
    (post k c v s).pending = s.pending := by
  simp [post]

/-! ### latchClamped -/

@[simp] theorem latchClamped_headTime (b : Bool) (s : State) : (latchClamped b s).headTime = s.headTime := by
  unfold latchClamped; split <;> simp
@[simp] theorem latchClamped_vtr (b : Bool) (s : State) : (latchClamped b s).vtr = s.vtr := by
  unfold latchClamped; split <;> simp
@[simp] theorem latchClamped_spl (b : Bool) (s : State) : (latchClamped b s).spl = s.spl := by
  unfold latchClamped; split <;> simp
@[simp] theorem latchClamped_governorL (b : Bool) (s : State) : (latchClamped b s).governorL = s.governorL := by
  unfold latchClamped; split <;> simp
@[simp] theorem latchClamped_governorR (b : Bool) (s : State) : (latchClamped b s).governorR = s.governorR := by
  unfold latchClamped; split <;> simp
@[simp] theorem latchClamped_governor (b : Bool) (s : State) (drum : Drum) :
    (latchClamped b s).governor drum = s.governor drum := by
  cases drum <;> simp [State.governor]
@[simp] theorem latchClamped_nSet (b : Bool) (s : State) : (latchClamped b s).nSet = s.nSet := by
  unfold latchClamped; split <;> simp
@[simp] theorem latchClamped_sru (b : Bool) (s : State) : (latchClamped b s).sru = s.sru := by
  unfold latchClamped; split <;> simp
@[simp] theorem latchClamped_pps (b : Bool) (s : State) : (latchClamped b s).pps = s.pps := by
  unfold latchClamped; split <;> simp
@[simp] theorem latchClamped_sbm (b : Bool) (s : State) : (latchClamped b s).sbm = s.sbm := by
  unfold latchClamped; split <;> simp
@[simp] theorem latchClamped_tst (b : Bool) (s : State) : (latchClamped b s).tst = s.tst := by
  unfold latchClamped; split <;> simp
@[simp] theorem latchClamped_rpu (b : Bool) (s : State) : (latchClamped b s).rpu = s.rpu := by
  unfold latchClamped; split <;> simp
@[simp] theorem latchClamped_freeSeq (b : Bool) (s : State) : (latchClamped b s).freeSeq = s.freeSeq := by
  unfold latchClamped; split <;> simp
@[simp] theorem latchClamped_pending (b : Bool) (s : State) : (latchClamped b s).pending = s.pending := by
  unfold latchClamped; split <;> simp

/-! ### latchOverrun -/

@[simp] theorem latchOverrun_headTime (b : Bool) (s : State) : (latchOverrun b s).headTime = s.headTime := by
  unfold latchOverrun; split <;> simp
@[simp] theorem latchOverrun_vtr (b : Bool) (s : State) : (latchOverrun b s).vtr = s.vtr := by
  unfold latchOverrun; split <;> simp
@[simp] theorem latchOverrun_spl (b : Bool) (s : State) : (latchOverrun b s).spl = s.spl := by
  unfold latchOverrun; split <;> simp
@[simp] theorem latchOverrun_governorL (b : Bool) (s : State) : (latchOverrun b s).governorL = s.governorL := by
  unfold latchOverrun; split <;> simp
@[simp] theorem latchOverrun_governorR (b : Bool) (s : State) : (latchOverrun b s).governorR = s.governorR := by
  unfold latchOverrun; split <;> simp
@[simp] theorem latchOverrun_governor (b : Bool) (s : State) (drum : Drum) :
    (latchOverrun b s).governor drum = s.governor drum := by
  cases drum <;> simp [State.governor]
@[simp] theorem latchOverrun_nSet (b : Bool) (s : State) : (latchOverrun b s).nSet = s.nSet := by
  unfold latchOverrun; split <;> simp
@[simp] theorem latchOverrun_sru (b : Bool) (s : State) : (latchOverrun b s).sru = s.sru := by
  unfold latchOverrun; split <;> simp
@[simp] theorem latchOverrun_pps (b : Bool) (s : State) : (latchOverrun b s).pps = s.pps := by
  unfold latchOverrun; split <;> simp
@[simp] theorem latchOverrun_sbm (b : Bool) (s : State) : (latchOverrun b s).sbm = s.sbm := by
  unfold latchOverrun; split <;> simp
@[simp] theorem latchOverrun_tst (b : Bool) (s : State) : (latchOverrun b s).tst = s.tst := by
  unfold latchOverrun; split <;> simp
@[simp] theorem latchOverrun_rpu (b : Bool) (s : State) : (latchOverrun b s).rpu = s.rpu := by
  unfold latchOverrun; split <;> simp
@[simp] theorem latchOverrun_freeSeq (b : Bool) (s : State) : (latchOverrun b s).freeSeq = s.freeSeq := by
  unfold latchOverrun; split <;> simp
@[simp] theorem latchOverrun_pending (b : Bool) (s : State) : (latchOverrun b s).pending = s.pending := by
  unfold latchOverrun; split <;> simp

/-! ### latchOverflow -/

@[simp] theorem latchOverflow_headTime (s : State) : (latchOverflow s).headTime = s.headTime := by
  simp [latchOverflow]
@[simp] theorem latchOverflow_vtr (s : State) : (latchOverflow s).vtr = s.vtr := by
  simp [latchOverflow]
@[simp] theorem latchOverflow_spl (s : State) : (latchOverflow s).spl = s.spl := by
  simp [latchOverflow]
@[simp] theorem latchOverflow_governorL (s : State) : (latchOverflow s).governorL = s.governorL := by
  simp [latchOverflow]
@[simp] theorem latchOverflow_governorR (s : State) : (latchOverflow s).governorR = s.governorR := by
  simp [latchOverflow]
@[simp] theorem latchOverflow_governor (s : State) (drum : Drum) :
    (latchOverflow s).governor drum = s.governor drum := by
  cases drum <;> simp [State.governor]
@[simp] theorem latchOverflow_nSet (s : State) : (latchOverflow s).nSet = s.nSet := by
  simp [latchOverflow]
@[simp] theorem latchOverflow_sru (s : State) : (latchOverflow s).sru = s.sru := by
  simp [latchOverflow]
@[simp] theorem latchOverflow_pps (s : State) : (latchOverflow s).pps = s.pps := by
  simp [latchOverflow]
@[simp] theorem latchOverflow_sbm (s : State) : (latchOverflow s).sbm = s.sbm := by
  simp [latchOverflow]
@[simp] theorem latchOverflow_tst (s : State) : (latchOverflow s).tst = s.tst := by
  simp [latchOverflow]
@[simp] theorem latchOverflow_rpu (s : State) : (latchOverflow s).rpu = s.rpu := by
  simp [latchOverflow]
@[simp] theorem latchOverflow_freeSeq (s : State) : (latchOverflow s).freeSeq = s.freeSeq := by
  simp [latchOverflow]
@[simp] theorem latchOverflow_pending (s : State) : (latchOverflow s).pending = s.pending := by
  simp [latchOverflow]

/-! ### pushAnswer -/

@[simp] theorem pushAnswer_headTime (k c : Byte) (x : ResultCode) (p : List Byte) (s : State) :
    (pushAnswer k c x p s).headTime = s.headTime := by
  simp [pushAnswer]
@[simp] theorem pushAnswer_vtr (k c : Byte) (x : ResultCode) (p : List Byte) (s : State) :
    (pushAnswer k c x p s).vtr = s.vtr := by
  simp [pushAnswer]
@[simp] theorem pushAnswer_spl (k c : Byte) (x : ResultCode) (p : List Byte) (s : State) :
    (pushAnswer k c x p s).spl = s.spl := by
  simp [pushAnswer]
@[simp] theorem pushAnswer_governorL (k c : Byte) (x : ResultCode) (p : List Byte) (s : State) :
    (pushAnswer k c x p s).governorL = s.governorL := by
  simp [pushAnswer]
@[simp] theorem pushAnswer_governorR (k c : Byte) (x : ResultCode) (p : List Byte) (s : State) :
    (pushAnswer k c x p s).governorR = s.governorR := by
  simp [pushAnswer]
@[simp] theorem pushAnswer_governor (k c : Byte) (x : ResultCode) (p : List Byte) (s : State) (drum : Drum) :
    (pushAnswer k c x p s).governor drum = s.governor drum := by
  cases drum <;> simp [State.governor]
@[simp] theorem pushAnswer_nSet (k c : Byte) (x : ResultCode) (p : List Byte) (s : State) :
    (pushAnswer k c x p s).nSet = s.nSet := by
  simp [pushAnswer]
@[simp] theorem pushAnswer_sru (k c : Byte) (x : ResultCode) (p : List Byte) (s : State) :
    (pushAnswer k c x p s).sru = s.sru := by
  simp [pushAnswer]
@[simp] theorem pushAnswer_pps (k c : Byte) (x : ResultCode) (p : List Byte) (s : State) :
    (pushAnswer k c x p s).pps = s.pps := by
  simp [pushAnswer]
@[simp] theorem pushAnswer_sbm (k c : Byte) (x : ResultCode) (p : List Byte) (s : State) :
    (pushAnswer k c x p s).sbm = s.sbm := by
  simp [pushAnswer]
@[simp] theorem pushAnswer_tst (k c : Byte) (x : ResultCode) (p : List Byte) (s : State) :
    (pushAnswer k c x p s).tst = s.tst := by
  simp [pushAnswer]
@[simp] theorem pushAnswer_rpu (k c : Byte) (x : ResultCode) (p : List Byte) (s : State) :
    (pushAnswer k c x p s).rpu = s.rpu := by
  simp [pushAnswer]
@[simp] theorem pushAnswer_freeSeq (k c : Byte) (x : ResultCode) (p : List Byte) (s : State) :
    (pushAnswer k c x p s).freeSeq = s.freeSeq := by
  simp [pushAnswer]
@[simp] theorem pushAnswer_pending (k c : Byte) (x : ResultCode) (p : List Byte) (s : State) :
    (pushAnswer k c x p s).pending = s.pending := by
  simp [pushAnswer]

end Sys2Proof.Machine
end

