-- ==== Sys2Proof/Laws/FramePlanner.lean ====
section
/-! SUPPORT. The frames of the operations of Machine/Planner.lean: each field of State an operation leaves as it was. -/

namespace Sys2Proof.Machine

/-! ### evaluate -/

@[simp] theorem evaluate_headTime (s : State) : (evaluate s).headTime = s.headTime := by
  simp [evaluate]
@[simp] theorem evaluate_vtr (s : State) : (evaluate s).vtr = s.vtr := by
  simp [evaluate]
@[simp] theorem evaluate_governorL (s : State) : (evaluate s).governorL = s.governorL := by
  simp [evaluate]
@[simp] theorem evaluate_governorR (s : State) : (evaluate s).governorR = s.governorR := by
  simp [evaluate]
@[simp] theorem evaluate_governor (s : State) (drum : Drum) :
    (evaluate s).governor drum = s.governor drum := by
  cases drum <;> simp [State.governor]
@[simp] theorem evaluate_nSet (s : State) : (evaluate s).nSet = s.nSet := by
  simp [evaluate]
@[simp] theorem evaluate_sru (s : State) : (evaluate s).sru = s.sru := by
  simp [evaluate]
@[simp] theorem evaluate_pps (s : State) : (evaluate s).pps = s.pps := by
  simp [evaluate]
@[simp] theorem evaluate_sbm (s : State) : (evaluate s).sbm = s.sbm := by
  simp [evaluate]
@[simp] theorem evaluate_tst (s : State) : (evaluate s).tst = s.tst := by
  simp [evaluate]
@[simp] theorem evaluate_ulp (s : State) : (evaluate s).ulp = s.ulp := by
  simp [evaluate]
@[simp] theorem evaluate_rpu (s : State) : (evaluate s).rpu = s.rpu := by
  simp [evaluate]
@[simp] theorem evaluate_freeSeq (s : State) : (evaluate s).freeSeq = s.freeSeq := by
  simp [evaluate]
@[simp] theorem evaluate_pending (s : State) : (evaluate s).pending = s.pending := by
  simp [evaluate]

/-! ### toleranceTest -/

@[simp] theorem toleranceTest_headTime (s : State) : (toleranceTest s).headTime = s.headTime := by
  simp only [toleranceTest]; repeat' split
  all_goals simp
@[simp] theorem toleranceTest_vtr (s : State) : (toleranceTest s).vtr = s.vtr := by
  simp only [toleranceTest]; repeat' split
  all_goals simp
@[simp] theorem toleranceTest_spl (s : State) : (toleranceTest s).spl = s.spl := by
  simp only [toleranceTest]; repeat' split
  all_goals simp
@[simp] theorem toleranceTest_governorL (s : State) : (toleranceTest s).governorL = s.governorL := by
  simp only [toleranceTest]; repeat' split
  all_goals simp
@[simp] theorem toleranceTest_governorR (s : State) : (toleranceTest s).governorR = s.governorR := by
  simp only [toleranceTest]; repeat' split
  all_goals simp
@[simp] theorem toleranceTest_governor (s : State) (drum : Drum) :
    (toleranceTest s).governor drum = s.governor drum := by
  cases drum <;> simp [State.governor]
@[simp] theorem toleranceTest_nSet (s : State) : (toleranceTest s).nSet = s.nSet := by
  simp only [toleranceTest]; repeat' split
  all_goals simp
@[simp] theorem toleranceTest_sru (s : State) : (toleranceTest s).sru = s.sru := by
  simp only [toleranceTest]; repeat' split
  all_goals simp
@[simp] theorem toleranceTest_pps (s : State) : (toleranceTest s).pps = s.pps := by
  simp only [toleranceTest]; repeat' split
  all_goals simp
@[simp] theorem toleranceTest_sbm (s : State) : (toleranceTest s).sbm = s.sbm := by
  simp only [toleranceTest]; repeat' split
  all_goals simp
@[simp] theorem toleranceTest_tst (s : State) : (toleranceTest s).tst = s.tst := by
  simp only [toleranceTest]; repeat' split
  all_goals simp
@[simp] theorem toleranceTest_ulp (s : State) : (toleranceTest s).ulp = s.ulp := by
  simp only [toleranceTest]; repeat' split
  all_goals simp
@[simp] theorem toleranceTest_freeSeq (s : State) : (toleranceTest s).freeSeq = s.freeSeq := by
  simp only [toleranceTest]; repeat' split
  all_goals simp
@[simp] theorem toleranceTest_pending (s : State) : (toleranceTest s).pending = s.pending := by
  simp only [toleranceTest]; repeat' split
  all_goals simp

/-! ### takeManualDelta -/

@[simp] theorem takeManualDelta_headTime (v : Int) (s : State) : (takeManualDelta v s).headTime = s.headTime := by
  simp [takeManualDelta]
@[simp] theorem takeManualDelta_vtr (v : Int) (s : State) : (takeManualDelta v s).vtr = s.vtr := by
  simp [takeManualDelta]
@[simp] theorem takeManualDelta_governorL (v : Int) (s : State) : (takeManualDelta v s).governorL = s.governorL := by
  simp [takeManualDelta]
@[simp] theorem takeManualDelta_governorR (v : Int) (s : State) : (takeManualDelta v s).governorR = s.governorR := by
  simp [takeManualDelta]
@[simp] theorem takeManualDelta_governor (v : Int) (s : State) (drum : Drum) :
    (takeManualDelta v s).governor drum = s.governor drum := by
  cases drum <;> simp [State.governor]
@[simp] theorem takeManualDelta_nSet (v : Int) (s : State) : (takeManualDelta v s).nSet = s.nSet := by
  simp [takeManualDelta]
@[simp] theorem takeManualDelta_sru (v : Int) (s : State) : (takeManualDelta v s).sru = s.sru := by
  simp [takeManualDelta]
@[simp] theorem takeManualDelta_pps (v : Int) (s : State) : (takeManualDelta v s).pps = s.pps := by
  simp [takeManualDelta]
@[simp] theorem takeManualDelta_sbm (v : Int) (s : State) : (takeManualDelta v s).sbm = s.sbm := by
  simp [takeManualDelta]
@[simp] theorem takeManualDelta_tst (v : Int) (s : State) : (takeManualDelta v s).tst = s.tst := by
  simp [takeManualDelta]
@[simp] theorem takeManualDelta_rpu (v : Int) (s : State) : (takeManualDelta v s).rpu = s.rpu := by
  simp [takeManualDelta]
@[simp] theorem takeManualDelta_freeSeq (v : Int) (s : State) : (takeManualDelta v s).freeSeq = s.freeSeq := by
  simp [takeManualDelta]
@[simp] theorem takeManualDelta_pending (v : Int) (s : State) : (takeManualDelta v s).pending = s.pending := by
  simp [takeManualDelta]

end Sys2Proof.Machine
end

