-- ==== Sys2Proof/Laws/FramePositioner.lean ====
section
/-! SUPPORT. The frames of the operations of Machine/Positioner.lean: each field of State an operation leaves as it was. -/

namespace Sys2Proof.Machine

/-! ### setPlates -/

@[simp] theorem setPlates_headTime (s : State) (q : Quad Plate) : (setPlates s q).headTime = s.headTime := by
  simp [setPlates]
@[simp] theorem setPlates_vtr (s : State) (q : Quad Plate) : (setPlates s q).vtr = s.vtr := by
  simp [setPlates]
@[simp] theorem setPlates_spl (s : State) (q : Quad Plate) : (setPlates s q).spl = s.spl := by
  simp [setPlates]
@[simp] theorem setPlates_governorL (s : State) (q : Quad Plate) : (setPlates s q).governorL = s.governorL := by
  simp [setPlates]
@[simp] theorem setPlates_governorR (s : State) (q : Quad Plate) : (setPlates s q).governorR = s.governorR := by
  simp [setPlates]
@[simp] theorem setPlates_governor (s : State) (q : Quad Plate) (drum : Drum) :
    (setPlates s q).governor drum = s.governor drum := by
  cases drum <;> simp [State.governor]
@[simp] theorem setPlates_nSet (s : State) (q : Quad Plate) : (setPlates s q).nSet = s.nSet := by
  simp [setPlates]
@[simp] theorem setPlates_sru (s : State) (q : Quad Plate) : (setPlates s q).sru = s.sru := by
  simp [setPlates]
@[simp] theorem setPlates_sbm (s : State) (q : Quad Plate) : (setPlates s q).sbm = s.sbm := by
  simp [setPlates]
@[simp] theorem setPlates_tst (s : State) (q : Quad Plate) : (setPlates s q).tst = s.tst := by
  simp [setPlates]
@[simp] theorem setPlates_ulp (s : State) (q : Quad Plate) : (setPlates s q).ulp = s.ulp := by
  simp [setPlates]
@[simp] theorem setPlates_rpu (s : State) (q : Quad Plate) : (setPlates s q).rpu = s.rpu := by
  simp [setPlates]
@[simp] theorem setPlates_freeSeq (s : State) (q : Quad Plate) : (setPlates s q).freeSeq = s.freeSeq := by
  simp [setPlates]
@[simp] theorem setPlates_pending (s : State) (q : Quad Plate) : (setPlates s q).pending = s.pending := by
  simp [setPlates]

/-! ### decisionPass -/

@[simp] theorem decisionPass_headTime (s : State) : (decisionPass s).headTime = s.headTime := by
  simp [decisionPass]
@[simp] theorem decisionPass_vtr (s : State) : (decisionPass s).vtr = s.vtr := by
  simp [decisionPass]
@[simp] theorem decisionPass_spl (s : State) : (decisionPass s).spl = s.spl := by
  simp [decisionPass]
@[simp] theorem decisionPass_governorL (s : State) : (decisionPass s).governorL = s.governorL := by
  simp [decisionPass]
@[simp] theorem decisionPass_governorR (s : State) : (decisionPass s).governorR = s.governorR := by
  simp [decisionPass]
@[simp] theorem decisionPass_governor (s : State) (drum : Drum) :
    (decisionPass s).governor drum = s.governor drum := by
  cases drum <;> simp [State.governor]
@[simp] theorem decisionPass_nSet (s : State) : (decisionPass s).nSet = s.nSet := by
  simp [decisionPass]
@[simp] theorem decisionPass_sru (s : State) : (decisionPass s).sru = s.sru := by
  simp [decisionPass]
@[simp] theorem decisionPass_sbm (s : State) : (decisionPass s).sbm = s.sbm := by
  simp [decisionPass]
@[simp] theorem decisionPass_tst (s : State) : (decisionPass s).tst = s.tst := by
  simp [decisionPass]
@[simp] theorem decisionPass_ulp (s : State) : (decisionPass s).ulp = s.ulp := by
  simp [decisionPass]
@[simp] theorem decisionPass_rpu (s : State) : (decisionPass s).rpu = s.rpu := by
  simp [decisionPass]
@[simp] theorem decisionPass_freeSeq (s : State) : (decisionPass s).freeSeq = s.freeSeq := by
  simp [decisionPass]
@[simp] theorem decisionPass_pending (s : State) : (decisionPass s).pending = s.pending := by
  simp [decisionPass]

/-! ### handTargets -/

@[simp] theorem handTargets_headTime (q : Quad Nat) (s : State) : (handTargets q s).headTime = s.headTime := by
  simp [handTargets]; split <;> simp
@[simp] theorem handTargets_vtr (q : Quad Nat) (s : State) : (handTargets q s).vtr = s.vtr := by
  simp [handTargets]; split <;> simp
@[simp] theorem handTargets_spl (q : Quad Nat) (s : State) : (handTargets q s).spl = s.spl := by
  simp [handTargets]; split <;> simp
@[simp] theorem handTargets_governorL (q : Quad Nat) (s : State) : (handTargets q s).governorL = s.governorL := by
  simp [handTargets]; split <;> simp
@[simp] theorem handTargets_governorR (q : Quad Nat) (s : State) : (handTargets q s).governorR = s.governorR := by
  simp [handTargets]; split <;> simp
@[simp] theorem handTargets_governor (q : Quad Nat) (s : State) (drum : Drum) :
    (handTargets q s).governor drum = s.governor drum := by
  cases drum <;> simp [State.governor]
@[simp] theorem handTargets_nSet (q : Quad Nat) (s : State) : (handTargets q s).nSet = s.nSet := by
  simp [handTargets]; split <;> simp
@[simp] theorem handTargets_sru (q : Quad Nat) (s : State) : (handTargets q s).sru = s.sru := by
  simp [handTargets]; split <;> simp
@[simp] theorem handTargets_sbm (q : Quad Nat) (s : State) : (handTargets q s).sbm = s.sbm := by
  simp [handTargets]; split <;> simp
@[simp] theorem handTargets_tst (q : Quad Nat) (s : State) : (handTargets q s).tst = s.tst := by
  simp [handTargets]; split <;> simp
@[simp] theorem handTargets_ulp (q : Quad Nat) (s : State) : (handTargets q s).ulp = s.ulp := by
  simp [handTargets]; split <;> simp
@[simp] theorem handTargets_rpu (q : Quad Nat) (s : State) : (handTargets q s).rpu = s.rpu := by
  simp [handTargets]; split <;> simp
@[simp] theorem handTargets_freeSeq (q : Quad Nat) (s : State) : (handTargets q s).freeSeq = s.freeSeq := by
  simp [handTargets]; split <;> simp
@[simp] theorem handTargets_pending (q : Quad Nat) (s : State) : (handTargets q s).pending = s.pending := by
  simp [handTargets]; split <;> simp

/-! ### evaluateAndHand -/

@[simp] theorem evaluateAndHand_headTime (s : State) : (evaluateAndHand s).headTime = s.headTime := by
  simp [evaluateAndHand]
@[simp] theorem evaluateAndHand_vtr (s : State) : (evaluateAndHand s).vtr = s.vtr := by
  simp [evaluateAndHand]
@[simp] theorem evaluateAndHand_governorL (s : State) : (evaluateAndHand s).governorL = s.governorL := by
  simp [evaluateAndHand]
@[simp] theorem evaluateAndHand_governorR (s : State) : (evaluateAndHand s).governorR = s.governorR := by
  simp [evaluateAndHand]
@[simp] theorem evaluateAndHand_governor (s : State) (drum : Drum) :
    (evaluateAndHand s).governor drum = s.governor drum := by
  cases drum <;> simp [State.governor]
@[simp] theorem evaluateAndHand_nSet (s : State) : (evaluateAndHand s).nSet = s.nSet := by
  simp [evaluateAndHand]
@[simp] theorem evaluateAndHand_sru (s : State) : (evaluateAndHand s).sru = s.sru := by
  simp [evaluateAndHand]
@[simp] theorem evaluateAndHand_sbm (s : State) : (evaluateAndHand s).sbm = s.sbm := by
  simp [evaluateAndHand]
@[simp] theorem evaluateAndHand_tst (s : State) : (evaluateAndHand s).tst = s.tst := by
  simp [evaluateAndHand]
@[simp] theorem evaluateAndHand_ulp (s : State) : (evaluateAndHand s).ulp = s.ulp := by
  simp [evaluateAndHand]
@[simp] theorem evaluateAndHand_rpu (s : State) : (evaluateAndHand s).rpu = s.rpu := by
  simp [evaluateAndHand]
@[simp] theorem evaluateAndHand_freeSeq (s : State) : (evaluateAndHand s).freeSeq = s.freeSeq := by
  simp [evaluateAndHand]
@[simp] theorem evaluateAndHand_pending (s : State) : (evaluateAndHand s).pending = s.pending := by
  simp [evaluateAndHand]

/-! ### takeMode -/

@[simp] theorem takeMode_headTime (v : Byte) (s : State) : (takeMode v s).headTime = s.headTime := by
  simp [takeMode]; split <;> simp
@[simp] theorem takeMode_vtr (v : Byte) (s : State) : (takeMode v s).vtr = s.vtr := by
  simp [takeMode]; split <;> simp
@[simp] theorem takeMode_spl (v : Byte) (s : State) : (takeMode v s).spl = s.spl := by
  simp [takeMode]; split <;> simp
@[simp] theorem takeMode_governorL (v : Byte) (s : State) : (takeMode v s).governorL = s.governorL := by
  simp [takeMode]; split <;> simp
@[simp] theorem takeMode_governorR (v : Byte) (s : State) : (takeMode v s).governorR = s.governorR := by
  simp [takeMode]; split <;> simp
@[simp] theorem takeMode_governor (v : Byte) (s : State) (drum : Drum) :
    (takeMode v s).governor drum = s.governor drum := by
  cases drum <;> simp [State.governor]
@[simp] theorem takeMode_nSet (v : Byte) (s : State) : (takeMode v s).nSet = s.nSet := by
  simp [takeMode]; split <;> simp
@[simp] theorem takeMode_sru (v : Byte) (s : State) : (takeMode v s).sru = s.sru := by
  simp [takeMode]; split <;> simp
@[simp] theorem takeMode_sbm (v : Byte) (s : State) : (takeMode v s).sbm = s.sbm := by
  simp [takeMode]; split <;> simp
@[simp] theorem takeMode_tst (v : Byte) (s : State) : (takeMode v s).tst = s.tst := by
  simp [takeMode]; split <;> simp
@[simp] theorem takeMode_rpu (v : Byte) (s : State) : (takeMode v s).rpu = s.rpu := by
  simp [takeMode]; split <;> simp
@[simp] theorem takeMode_freeSeq (v : Byte) (s : State) : (takeMode v s).freeSeq = s.freeSeq := by
  simp [takeMode]; split <;> simp
@[simp] theorem takeMode_pending (v : Byte) (s : State) : (takeMode v s).pending = s.pending := by
  simp [takeMode]; split <;> simp

/-! ### takeManualTargets -/

@[simp] theorem takeManualTargets_headTime (q : Quad Nat) (s : State) :
    (takeManualTargets q s).headTime = s.headTime := by
  simp [takeManualTargets]
@[simp] theorem takeManualTargets_vtr (q : Quad Nat) (s : State) : (takeManualTargets q s).vtr = s.vtr := by
  simp [takeManualTargets]
@[simp] theorem takeManualTargets_spl (q : Quad Nat) (s : State) : (takeManualTargets q s).spl = s.spl := by
  simp [takeManualTargets]
@[simp] theorem takeManualTargets_governorL (q : Quad Nat) (s : State) :
    (takeManualTargets q s).governorL = s.governorL := by
  simp [takeManualTargets]
@[simp] theorem takeManualTargets_governorR (q : Quad Nat) (s : State) :
    (takeManualTargets q s).governorR = s.governorR := by
  simp [takeManualTargets]
@[simp] theorem takeManualTargets_governor (q : Quad Nat) (s : State) (drum : Drum) :
    (takeManualTargets q s).governor drum = s.governor drum := by
  cases drum <;> simp [State.governor]
@[simp] theorem takeManualTargets_nSet (q : Quad Nat) (s : State) : (takeManualTargets q s).nSet = s.nSet := by
  simp [takeManualTargets]
@[simp] theorem takeManualTargets_sru (q : Quad Nat) (s : State) : (takeManualTargets q s).sru = s.sru := by
  simp [takeManualTargets]
@[simp] theorem takeManualTargets_sbm (q : Quad Nat) (s : State) : (takeManualTargets q s).sbm = s.sbm := by
  simp [takeManualTargets]
@[simp] theorem takeManualTargets_tst (q : Quad Nat) (s : State) : (takeManualTargets q s).tst = s.tst := by
  simp [takeManualTargets]
@[simp] theorem takeManualTargets_rpu (q : Quad Nat) (s : State) : (takeManualTargets q s).rpu = s.rpu := by
  simp [takeManualTargets]
@[simp] theorem takeManualTargets_freeSeq (q : Quad Nat) (s : State) :
    (takeManualTargets q s).freeSeq = s.freeSeq := by
  simp [takeManualTargets]
@[simp] theorem takeManualTargets_pending (q : Quad Nat) (s : State) :
    (takeManualTargets q s).pending = s.pending := by
  simp [takeManualTargets]

/-! ### flapLost -/

@[simp] theorem flapLost_headTime (s : State) : (flapLost s).headTime = s.headTime := by
  simp [flapLost]
@[simp] theorem flapLost_vtr (s : State) : (flapLost s).vtr = s.vtr := by
  simp [flapLost]
@[simp] theorem flapLost_spl (s : State) : (flapLost s).spl = s.spl := by
  simp [flapLost]
@[simp] theorem flapLost_governorL (s : State) : (flapLost s).governorL = s.governorL := by
  simp [flapLost]
@[simp] theorem flapLost_governorR (s : State) : (flapLost s).governorR = s.governorR := by
  simp [flapLost]
@[simp] theorem flapLost_governor (s : State) (drum : Drum) :
    (flapLost s).governor drum = s.governor drum := by
  cases drum <;> simp [State.governor]
@[simp] theorem flapLost_nSet (s : State) : (flapLost s).nSet = s.nSet := by
  simp [flapLost]
@[simp] theorem flapLost_sru (s : State) : (flapLost s).sru = s.sru := by
  simp [flapLost]
@[simp] theorem flapLost_sbm (s : State) : (flapLost s).sbm = s.sbm := by
  simp [flapLost]
@[simp] theorem flapLost_tst (s : State) : (flapLost s).tst = s.tst := by
  simp [flapLost]
@[simp] theorem flapLost_ulp (s : State) : (flapLost s).ulp = s.ulp := by
  simp [flapLost]
@[simp] theorem flapLost_rpu (s : State) : (flapLost s).rpu = s.rpu := by
  simp [flapLost]
@[simp] theorem flapLost_freeSeq (s : State) : (flapLost s).freeSeq = s.freeSeq := by
  simp [flapLost]
@[simp] theorem flapLost_pending (s : State) : (flapLost s).pending = s.pending := by
  simp [flapLost]

/-! ### linkNoticePlates -/

@[simp] theorem linkNoticePlates_headTime (b : Bool) (s : State) : (linkNoticePlates b s).headTime = s.headTime := by
  simp [linkNoticePlates]
@[simp] theorem linkNoticePlates_vtr (b : Bool) (s : State) : (linkNoticePlates b s).vtr = s.vtr := by
  simp [linkNoticePlates]
@[simp] theorem linkNoticePlates_spl (b : Bool) (s : State) : (linkNoticePlates b s).spl = s.spl := by
  simp [linkNoticePlates]
@[simp] theorem linkNoticePlates_governorL (b : Bool) (s : State) :
    (linkNoticePlates b s).governorL = s.governorL := by
  simp [linkNoticePlates]
@[simp] theorem linkNoticePlates_governorR (b : Bool) (s : State) :
    (linkNoticePlates b s).governorR = s.governorR := by
  simp [linkNoticePlates]
@[simp] theorem linkNoticePlates_governor (b : Bool) (s : State) (drum : Drum) :
    (linkNoticePlates b s).governor drum = s.governor drum := by
  cases drum <;> simp [State.governor]
@[simp] theorem linkNoticePlates_nSet (b : Bool) (s : State) : (linkNoticePlates b s).nSet = s.nSet := by
  simp [linkNoticePlates]
@[simp] theorem linkNoticePlates_sru (b : Bool) (s : State) : (linkNoticePlates b s).sru = s.sru := by
  simp [linkNoticePlates]
@[simp] theorem linkNoticePlates_sbm (b : Bool) (s : State) : (linkNoticePlates b s).sbm = s.sbm := by
  simp [linkNoticePlates]
@[simp] theorem linkNoticePlates_tst (b : Bool) (s : State) : (linkNoticePlates b s).tst = s.tst := by
  simp [linkNoticePlates]
@[simp] theorem linkNoticePlates_ulp (b : Bool) (s : State) : (linkNoticePlates b s).ulp = s.ulp := by
  simp [linkNoticePlates]
@[simp] theorem linkNoticePlates_rpu (b : Bool) (s : State) : (linkNoticePlates b s).rpu = s.rpu := by
  simp [linkNoticePlates]
@[simp] theorem linkNoticePlates_freeSeq (b : Bool) (s : State) : (linkNoticePlates b s).freeSeq = s.freeSeq := by
  simp [linkNoticePlates]
@[simp] theorem linkNoticePlates_pending (b : Bool) (s : State) : (linkNoticePlates b s).pending = s.pending := by
  simp [linkNoticePlates]

/-! ### headResetPlates -/

@[simp] theorem headResetPlates_headTime (s : State) : (headResetPlates s).headTime = s.headTime := by
  simp [headResetPlates]
@[simp] theorem headResetPlates_vtr (s : State) : (headResetPlates s).vtr = s.vtr := by
  simp [headResetPlates]
@[simp] theorem headResetPlates_spl (s : State) : (headResetPlates s).spl = s.spl := by
  simp [headResetPlates]
@[simp] theorem headResetPlates_governorL (s : State) : (headResetPlates s).governorL = s.governorL := by
  simp [headResetPlates]
@[simp] theorem headResetPlates_governorR (s : State) : (headResetPlates s).governorR = s.governorR := by
  simp [headResetPlates]
@[simp] theorem headResetPlates_governor (s : State) (drum : Drum) :
    (headResetPlates s).governor drum = s.governor drum := by
  cases drum <;> simp [State.governor]
@[simp] theorem headResetPlates_nSet (s : State) : (headResetPlates s).nSet = s.nSet := by
  simp [headResetPlates]
@[simp] theorem headResetPlates_sru (s : State) : (headResetPlates s).sru = s.sru := by
  simp [headResetPlates]
@[simp] theorem headResetPlates_sbm (s : State) : (headResetPlates s).sbm = s.sbm := by
  simp [headResetPlates]
@[simp] theorem headResetPlates_tst (s : State) : (headResetPlates s).tst = s.tst := by
  simp [headResetPlates]
@[simp] theorem headResetPlates_ulp (s : State) : (headResetPlates s).ulp = s.ulp := by
  simp [headResetPlates]
@[simp] theorem headResetPlates_rpu (s : State) : (headResetPlates s).rpu = s.rpu := by
  simp [headResetPlates]
@[simp] theorem headResetPlates_freeSeq (s : State) : (headResetPlates s).freeSeq = s.freeSeq := by
  simp [headResetPlates]
@[simp] theorem headResetPlates_pending (s : State) : (headResetPlates s).pending = s.pending := by
  simp [headResetPlates]

/-! ### clearPlates -/

@[simp] theorem clearPlates_headTime (s : State) : (clearPlates s).headTime = s.headTime := by
  simp [clearPlates]
@[simp] theorem clearPlates_vtr (s : State) : (clearPlates s).vtr = s.vtr := by
  simp [clearPlates]
@[simp] theorem clearPlates_spl (s : State) : (clearPlates s).spl = s.spl := by
  simp [clearPlates]
@[simp] theorem clearPlates_governorL (s : State) : (clearPlates s).governorL = s.governorL := by
  simp [clearPlates]
@[simp] theorem clearPlates_governorR (s : State) : (clearPlates s).governorR = s.governorR := by
  simp [clearPlates]
@[simp] theorem clearPlates_governor (s : State) (drum : Drum) :
    (clearPlates s).governor drum = s.governor drum := by
  cases drum <;> simp [State.governor]
@[simp] theorem clearPlates_nSet (s : State) : (clearPlates s).nSet = s.nSet := by
  simp [clearPlates]
@[simp] theorem clearPlates_sru (s : State) : (clearPlates s).sru = s.sru := by
  simp [clearPlates]
@[simp] theorem clearPlates_sbm (s : State) : (clearPlates s).sbm = s.sbm := by
  simp [clearPlates]
@[simp] theorem clearPlates_tst (s : State) : (clearPlates s).tst = s.tst := by
  simp [clearPlates]
@[simp] theorem clearPlates_ulp (s : State) : (clearPlates s).ulp = s.ulp := by
  simp [clearPlates]
@[simp] theorem clearPlates_rpu (s : State) : (clearPlates s).rpu = s.rpu := by
  simp [clearPlates]
@[simp] theorem clearPlates_freeSeq (s : State) : (clearPlates s).freeSeq = s.freeSeq := by
  simp [clearPlates]
@[simp] theorem clearPlates_pending (s : State) : (clearPlates s).pending = s.pending := by
  simp [clearPlates]

/-! ### strokeExpiry -/

@[simp] theorem strokeExpiry_headTime (id : PlateId) (s : State) : (strokeExpiry id s).headTime = s.headTime := by
  simp only [strokeExpiry]; repeat' split
  all_goals simp
@[simp] theorem strokeExpiry_vtr (id : PlateId) (s : State) : (strokeExpiry id s).vtr = s.vtr := by
  simp only [strokeExpiry]; repeat' split
  all_goals simp
@[simp] theorem strokeExpiry_spl (id : PlateId) (s : State) : (strokeExpiry id s).spl = s.spl := by
  simp only [strokeExpiry]; repeat' split
  all_goals simp
@[simp] theorem strokeExpiry_governorL (id : PlateId) (s : State) : (strokeExpiry id s).governorL = s.governorL := by
  simp only [strokeExpiry]; repeat' split
  all_goals simp
@[simp] theorem strokeExpiry_governorR (id : PlateId) (s : State) : (strokeExpiry id s).governorR = s.governorR := by
  simp only [strokeExpiry]; repeat' split
  all_goals simp
@[simp] theorem strokeExpiry_governor (id : PlateId) (s : State) (drum : Drum) :
    (strokeExpiry id s).governor drum = s.governor drum := by
  cases drum <;> simp [State.governor]
@[simp] theorem strokeExpiry_nSet (id : PlateId) (s : State) : (strokeExpiry id s).nSet = s.nSet := by
  simp only [strokeExpiry]; repeat' split
  all_goals simp
@[simp] theorem strokeExpiry_sru (id : PlateId) (s : State) : (strokeExpiry id s).sru = s.sru := by
  simp only [strokeExpiry]; repeat' split
  all_goals simp
@[simp] theorem strokeExpiry_sbm (id : PlateId) (s : State) : (strokeExpiry id s).sbm = s.sbm := by
  simp only [strokeExpiry]; repeat' split
  all_goals simp
@[simp] theorem strokeExpiry_tst (id : PlateId) (s : State) : (strokeExpiry id s).tst = s.tst := by
  simp only [strokeExpiry]; repeat' split
  all_goals simp
@[simp] theorem strokeExpiry_ulp (id : PlateId) (s : State) : (strokeExpiry id s).ulp = s.ulp := by
  simp only [strokeExpiry]; repeat' split
  all_goals simp
@[simp] theorem strokeExpiry_freeSeq (id : PlateId) (s : State) : (strokeExpiry id s).freeSeq = s.freeSeq := by
  simp only [strokeExpiry]; repeat' split
  all_goals simp
@[simp] theorem strokeExpiry_pending (id : PlateId) (s : State) : (strokeExpiry id s).pending = s.pending := by
  simp only [strokeExpiry]; repeat' split
  all_goals simp

/-! ### dwellExpiry -/

@[simp] theorem dwellExpiry_headTime (id : PlateId) (s : State) : (dwellExpiry id s).headTime = s.headTime := by
  simp only [dwellExpiry]; repeat' split
  all_goals simp
@[simp] theorem dwellExpiry_vtr (id : PlateId) (s : State) : (dwellExpiry id s).vtr = s.vtr := by
  simp only [dwellExpiry]; repeat' split
  all_goals simp
@[simp] theorem dwellExpiry_spl (id : PlateId) (s : State) : (dwellExpiry id s).spl = s.spl := by
  simp only [dwellExpiry]; repeat' split
  all_goals simp
@[simp] theorem dwellExpiry_governorL (id : PlateId) (s : State) : (dwellExpiry id s).governorL = s.governorL := by
  simp only [dwellExpiry]; repeat' split
  all_goals simp
@[simp] theorem dwellExpiry_governorR (id : PlateId) (s : State) : (dwellExpiry id s).governorR = s.governorR := by
  simp only [dwellExpiry]; repeat' split
  all_goals simp
@[simp] theorem dwellExpiry_governor (id : PlateId) (s : State) (drum : Drum) :
    (dwellExpiry id s).governor drum = s.governor drum := by
  cases drum <;> simp [State.governor]
@[simp] theorem dwellExpiry_nSet (id : PlateId) (s : State) : (dwellExpiry id s).nSet = s.nSet := by
  simp only [dwellExpiry]; repeat' split
  all_goals simp
@[simp] theorem dwellExpiry_sru (id : PlateId) (s : State) : (dwellExpiry id s).sru = s.sru := by
  simp only [dwellExpiry]; repeat' split
  all_goals simp
@[simp] theorem dwellExpiry_sbm (id : PlateId) (s : State) : (dwellExpiry id s).sbm = s.sbm := by
  simp only [dwellExpiry]; repeat' split
  all_goals simp
@[simp] theorem dwellExpiry_tst (id : PlateId) (s : State) : (dwellExpiry id s).tst = s.tst := by
  simp only [dwellExpiry]; repeat' split
  all_goals simp
@[simp] theorem dwellExpiry_ulp (id : PlateId) (s : State) : (dwellExpiry id s).ulp = s.ulp := by
  simp only [dwellExpiry]; repeat' split
  all_goals simp
@[simp] theorem dwellExpiry_rpu (id : PlateId) (s : State) : (dwellExpiry id s).rpu = s.rpu := by
  simp only [dwellExpiry]; repeat' split
  all_goals simp
@[simp] theorem dwellExpiry_freeSeq (id : PlateId) (s : State) : (dwellExpiry id s).freeSeq = s.freeSeq := by
  simp only [dwellExpiry]; repeat' split
  all_goals simp
@[simp] theorem dwellExpiry_pending (id : PlateId) (s : State) : (dwellExpiry id s).pending = s.pending := by
  simp only [dwellExpiry]; repeat' split
  all_goals simp

end Sys2Proof.Machine
end

