-- ==== Sys2Proof/Laws/FrameSlurry.lean ====
section
/-! SUPPORT. The frames of the operations of Machine/Slurry.lean: each field of State an operation leaves as it was. -/

namespace Sys2Proof.Machine

/-! ### takePumpFields -/

@[simp] theorem takePumpFields_headTime (n m : Nat) (e : Byte) (s : State) :
    (takePumpFields n m e s).headTime = s.headTime := by
  simp [takePumpFields]
@[simp] theorem takePumpFields_vtr (n m : Nat) (e : Byte) (s : State) : (takePumpFields n m e s).vtr = s.vtr := by
  simp [takePumpFields]
@[simp] theorem takePumpFields_spl (n m : Nat) (e : Byte) (s : State) : (takePumpFields n m e s).spl = s.spl := by
  simp [takePumpFields]
@[simp] theorem takePumpFields_governorL (n m : Nat) (e : Byte) (s : State) :
    (takePumpFields n m e s).governorL = s.governorL := by
  simp [takePumpFields]
@[simp] theorem takePumpFields_governorR (n m : Nat) (e : Byte) (s : State) :
    (takePumpFields n m e s).governorR = s.governorR := by
  simp [takePumpFields]
@[simp] theorem takePumpFields_governor (n m : Nat) (e : Byte) (s : State) (drum : Drum) :
    (takePumpFields n m e s).governor drum = s.governor drum := by
  cases drum <;> simp [State.governor]
@[simp] theorem takePumpFields_nSet (n m : Nat) (e : Byte) (s : State) : (takePumpFields n m e s).nSet = s.nSet := by
  simp [takePumpFields]
@[simp] theorem takePumpFields_pps (n m : Nat) (e : Byte) (s : State) : (takePumpFields n m e s).pps = s.pps := by
  simp [takePumpFields]
@[simp] theorem takePumpFields_sbm (n m : Nat) (e : Byte) (s : State) : (takePumpFields n m e s).sbm = s.sbm := by
  simp [takePumpFields]
@[simp] theorem takePumpFields_tst (n m : Nat) (e : Byte) (s : State) : (takePumpFields n m e s).tst = s.tst := by
  simp [takePumpFields]
@[simp] theorem takePumpFields_rpu (n m : Nat) (e : Byte) (s : State) : (takePumpFields n m e s).rpu = s.rpu := by
  simp [takePumpFields]
@[simp] theorem takePumpFields_freeSeq (n m : Nat) (e : Byte) (s : State) :
    (takePumpFields n m e s).freeSeq = s.freeSeq := by
  simp [takePumpFields]
@[simp] theorem takePumpFields_pending (n m : Nat) (e : Byte) (s : State) :
    (takePumpFields n m e s).pending = s.pending := by
  simp [takePumpFields]

/-! ### tripPump -/

@[simp] theorem tripPump_headTime (c : PumpCause) (s : State) : (tripPump c s).headTime = s.headTime := by
  simp [tripPump]
@[simp] theorem tripPump_vtr (c : PumpCause) (s : State) : (tripPump c s).vtr = s.vtr := by
  simp [tripPump]
@[simp] theorem tripPump_spl (c : PumpCause) (s : State) : (tripPump c s).spl = s.spl := by
  simp [tripPump]
@[simp] theorem tripPump_governorL (c : PumpCause) (s : State) : (tripPump c s).governorL = s.governorL := by
  simp [tripPump]
@[simp] theorem tripPump_governorR (c : PumpCause) (s : State) : (tripPump c s).governorR = s.governorR := by
  simp [tripPump]
@[simp] theorem tripPump_governor (c : PumpCause) (s : State) (drum : Drum) :
    (tripPump c s).governor drum = s.governor drum := by
  cases drum <;> simp [State.governor]
@[simp] theorem tripPump_nSet (c : PumpCause) (s : State) : (tripPump c s).nSet = s.nSet := by
  simp [tripPump]
@[simp] theorem tripPump_pps (c : PumpCause) (s : State) : (tripPump c s).pps = s.pps := by
  simp [tripPump]
@[simp] theorem tripPump_sbm (c : PumpCause) (s : State) : (tripPump c s).sbm = s.sbm := by
  simp [tripPump]
@[simp] theorem tripPump_tst (c : PumpCause) (s : State) : (tripPump c s).tst = s.tst := by
  simp [tripPump]
@[simp] theorem tripPump_ulp (c : PumpCause) (s : State) : (tripPump c s).ulp = s.ulp := by
  simp [tripPump]
@[simp] theorem tripPump_freeSeq (c : PumpCause) (s : State) : (tripPump c s).freeSeq = s.freeSeq := by
  simp [tripPump]
@[simp] theorem tripPump_pending (c : PumpCause) (s : State) : (tripPump c s).pending = s.pending := by
  simp [tripPump]

/-! ### slurryLost -/

@[simp] theorem slurryLost_headTime (s : State) : (slurryLost s).headTime = s.headTime := by
  simp [slurryLost]
@[simp] theorem slurryLost_vtr (s : State) : (slurryLost s).vtr = s.vtr := by
  simp [slurryLost]
@[simp] theorem slurryLost_spl (s : State) : (slurryLost s).spl = s.spl := by
  simp [slurryLost]
@[simp] theorem slurryLost_governorL (s : State) : (slurryLost s).governorL = s.governorL := by
  simp [slurryLost]
@[simp] theorem slurryLost_governorR (s : State) : (slurryLost s).governorR = s.governorR := by
  simp [slurryLost]
@[simp] theorem slurryLost_governor (s : State) (drum : Drum) :
    (slurryLost s).governor drum = s.governor drum := by
  cases drum <;> simp [State.governor]
@[simp] theorem slurryLost_nSet (s : State) : (slurryLost s).nSet = s.nSet := by
  simp [slurryLost]
@[simp] theorem slurryLost_pps (s : State) : (slurryLost s).pps = s.pps := by
  simp [slurryLost]
@[simp] theorem slurryLost_sbm (s : State) : (slurryLost s).sbm = s.sbm := by
  simp [slurryLost]
@[simp] theorem slurryLost_tst (s : State) : (slurryLost s).tst = s.tst := by
  simp [slurryLost]
@[simp] theorem slurryLost_ulp (s : State) : (slurryLost s).ulp = s.ulp := by
  simp [slurryLost]
@[simp] theorem slurryLost_rpu (s : State) : (slurryLost s).rpu = s.rpu := by
  simp [slurryLost]
@[simp] theorem slurryLost_freeSeq (s : State) : (slurryLost s).freeSeq = s.freeSeq := by
  simp [slurryLost]
@[simp] theorem slurryLost_pending (s : State) : (slurryLost s).pending = s.pending := by
  simp [slurryLost]

/-! ### clearPump -/

@[simp] theorem clearPump_headTime (s : State) : (clearPump s).headTime = s.headTime := by
  simp [clearPump]; split <;> simp
@[simp] theorem clearPump_vtr (s : State) : (clearPump s).vtr = s.vtr := by
  simp [clearPump]; split <;> simp
@[simp] theorem clearPump_spl (s : State) : (clearPump s).spl = s.spl := by
  simp [clearPump]; split <;> simp
@[simp] theorem clearPump_governorL (s : State) : (clearPump s).governorL = s.governorL := by
  simp [clearPump]; split <;> simp
@[simp] theorem clearPump_governorR (s : State) : (clearPump s).governorR = s.governorR := by
  simp [clearPump]; split <;> simp
@[simp] theorem clearPump_governor (s : State) (drum : Drum) :
    (clearPump s).governor drum = s.governor drum := by
  cases drum <;> simp [State.governor]
@[simp] theorem clearPump_nSet (s : State) : (clearPump s).nSet = s.nSet := by
  simp [clearPump]; split <;> simp
@[simp] theorem clearPump_pps (s : State) : (clearPump s).pps = s.pps := by
  simp [clearPump]; split <;> simp
@[simp] theorem clearPump_sbm (s : State) : (clearPump s).sbm = s.sbm := by
  simp [clearPump]; split <;> simp
@[simp] theorem clearPump_tst (s : State) : (clearPump s).tst = s.tst := by
  simp [clearPump]; split <;> simp
@[simp] theorem clearPump_ulp (s : State) : (clearPump s).ulp = s.ulp := by
  simp [clearPump]; split <;> simp
@[simp] theorem clearPump_rpu (s : State) : (clearPump s).rpu = s.rpu := by
  simp [clearPump]; split <;> simp
@[simp] theorem clearPump_freeSeq (s : State) : (clearPump s).freeSeq = s.freeSeq := by
  simp [clearPump]; split <;> simp
@[simp] theorem clearPump_pending (s : State) : (clearPump s).pending = s.pending := by
  simp [clearPump]; split <;> simp

/-! ### levelStage -/

@[simp] theorem levelStage_headTime (s : State) : (levelStage s).headTime = s.headTime := by
  simp [levelStage]; split <;> simp
@[simp] theorem levelStage_vtr (s : State) : (levelStage s).vtr = s.vtr := by
  simp [levelStage]; split <;> simp
@[simp] theorem levelStage_spl (s : State) : (levelStage s).spl = s.spl := by
  simp [levelStage]; split <;> simp
@[simp] theorem levelStage_governorL (s : State) : (levelStage s).governorL = s.governorL := by
  simp [levelStage]; split <;> simp
@[simp] theorem levelStage_governorR (s : State) : (levelStage s).governorR = s.governorR := by
  simp [levelStage]; split <;> simp
@[simp] theorem levelStage_governor (s : State) (drum : Drum) :
    (levelStage s).governor drum = s.governor drum := by
  cases drum <;> simp [State.governor]
@[simp] theorem levelStage_nSet (s : State) : (levelStage s).nSet = s.nSet := by
  simp [levelStage]; split <;> simp
@[simp] theorem levelStage_pps (s : State) : (levelStage s).pps = s.pps := by
  simp [levelStage]; split <;> simp
@[simp] theorem levelStage_sbm (s : State) : (levelStage s).sbm = s.sbm := by
  simp [levelStage]; split <;> simp
@[simp] theorem levelStage_tst (s : State) : (levelStage s).tst = s.tst := by
  simp [levelStage]; split <;> simp
@[simp] theorem levelStage_ulp (s : State) : (levelStage s).ulp = s.ulp := by
  simp [levelStage]; split <;> simp
@[simp] theorem levelStage_freeSeq (s : State) : (levelStage s).freeSeq = s.freeSeq := by
  simp [levelStage]; split <;> simp
@[simp] theorem levelStage_pending (s : State) : (levelStage s).pending = s.pending := by
  simp [levelStage]; split <;> simp

/-! ### makeFeedHold -/

@[simp] theorem makeFeedHold_headTime (n : Nat) (s : State) : (makeFeedHold n s).headTime = s.headTime := by
  simp [makeFeedHold]
@[simp] theorem makeFeedHold_vtr (n : Nat) (s : State) : (makeFeedHold n s).vtr = s.vtr := by
  simp [makeFeedHold]
@[simp] theorem makeFeedHold_spl (n : Nat) (s : State) : (makeFeedHold n s).spl = s.spl := by
  simp [makeFeedHold]
@[simp] theorem makeFeedHold_governorL (n : Nat) (s : State) : (makeFeedHold n s).governorL = s.governorL := by
  simp [makeFeedHold]
@[simp] theorem makeFeedHold_governorR (n : Nat) (s : State) : (makeFeedHold n s).governorR = s.governorR := by
  simp [makeFeedHold]
@[simp] theorem makeFeedHold_governor (n : Nat) (s : State) (drum : Drum) :
    (makeFeedHold n s).governor drum = s.governor drum := by
  cases drum <;> simp [State.governor]
@[simp] theorem makeFeedHold_nSet (n : Nat) (s : State) : (makeFeedHold n s).nSet = s.nSet := by
  simp [makeFeedHold]
@[simp] theorem makeFeedHold_sru (n : Nat) (s : State) : (makeFeedHold n s).sru = s.sru := by
  simp [makeFeedHold]
@[simp] theorem makeFeedHold_pps (n : Nat) (s : State) : (makeFeedHold n s).pps = s.pps := by
  simp [makeFeedHold]
@[simp] theorem makeFeedHold_sbm (n : Nat) (s : State) : (makeFeedHold n s).sbm = s.sbm := by
  simp [makeFeedHold]
@[simp] theorem makeFeedHold_tst (n : Nat) (s : State) : (makeFeedHold n s).tst = s.tst := by
  simp [makeFeedHold]
@[simp] theorem makeFeedHold_rpu (n : Nat) (s : State) : (makeFeedHold n s).rpu = s.rpu := by
  simp [makeFeedHold]
@[simp] theorem makeFeedHold_freeSeq (n : Nat) (s : State) : (makeFeedHold n s).freeSeq = s.freeSeq := by
  simp [makeFeedHold]
@[simp] theorem makeFeedHold_pending (n : Nat) (s : State) : (makeFeedHold n s).pending = s.pending := by
  simp [makeFeedHold]

/-! ### holdFeed -/

@[simp] theorem holdFeed_headTime (s : State) : (holdFeed s).headTime = s.headTime := by
  simp [holdFeed]
@[simp] theorem holdFeed_vtr (s : State) : (holdFeed s).vtr = s.vtr := by
  simp [holdFeed]
@[simp] theorem holdFeed_spl (s : State) : (holdFeed s).spl = s.spl := by
  simp [holdFeed]
@[simp] theorem holdFeed_governorL (s : State) : (holdFeed s).governorL = s.governorL := by
  simp [holdFeed]
@[simp] theorem holdFeed_governorR (s : State) : (holdFeed s).governorR = s.governorR := by
  simp [holdFeed]
@[simp] theorem holdFeed_governor (s : State) (drum : Drum) :
    (holdFeed s).governor drum = s.governor drum := by
  cases drum <;> simp [State.governor]
@[simp] theorem holdFeed_nSet (s : State) : (holdFeed s).nSet = s.nSet := by
  simp [holdFeed]
@[simp] theorem holdFeed_pps (s : State) : (holdFeed s).pps = s.pps := by
  simp [holdFeed]
@[simp] theorem holdFeed_sbm (s : State) : (holdFeed s).sbm = s.sbm := by
  simp [holdFeed]
@[simp] theorem holdFeed_tst (s : State) : (holdFeed s).tst = s.tst := by
  simp [holdFeed]
@[simp] theorem holdFeed_rpu (s : State) : (holdFeed s).rpu = s.rpu := by
  simp [holdFeed]
@[simp] theorem holdFeed_freeSeq (s : State) : (holdFeed s).freeSeq = s.freeSeq := by
  simp [holdFeed]
@[simp] theorem holdFeed_pending (s : State) : (holdFeed s).pending = s.pending := by
  simp [holdFeed]

/-! ### releaseFeed -/

@[simp] theorem releaseFeed_headTime (s : State) : (releaseFeed s).headTime = s.headTime := by
  simp [releaseFeed]
@[simp] theorem releaseFeed_vtr (s : State) : (releaseFeed s).vtr = s.vtr := by
  simp [releaseFeed]
@[simp] theorem releaseFeed_spl (s : State) : (releaseFeed s).spl = s.spl := by
  simp [releaseFeed]
@[simp] theorem releaseFeed_governorL (s : State) : (releaseFeed s).governorL = s.governorL := by
  simp [releaseFeed]
@[simp] theorem releaseFeed_governorR (s : State) : (releaseFeed s).governorR = s.governorR := by
  simp [releaseFeed]
@[simp] theorem releaseFeed_governor (s : State) (drum : Drum) :
    (releaseFeed s).governor drum = s.governor drum := by
  cases drum <;> simp [State.governor]
@[simp] theorem releaseFeed_nSet (s : State) : (releaseFeed s).nSet = s.nSet := by
  simp [releaseFeed]
@[simp] theorem releaseFeed_pps (s : State) : (releaseFeed s).pps = s.pps := by
  simp [releaseFeed]
@[simp] theorem releaseFeed_sbm (s : State) : (releaseFeed s).sbm = s.sbm := by
  simp [releaseFeed]
@[simp] theorem releaseFeed_tst (s : State) : (releaseFeed s).tst = s.tst := by
  simp [releaseFeed]
@[simp] theorem releaseFeed_rpu (s : State) : (releaseFeed s).rpu = s.rpu := by
  simp [releaseFeed]
@[simp] theorem releaseFeed_freeSeq (s : State) : (releaseFeed s).freeSeq = s.freeSeq := by
  simp [releaseFeed]
@[simp] theorem releaseFeed_pending (s : State) : (releaseFeed s).pending = s.pending := by
  simp [releaseFeed]

/-! ### feedHoldTest -/

@[simp] theorem feedHoldTest_headTime (s : State) : (feedHoldTest s).headTime = s.headTime := by
  simp only [feedHoldTest]; repeat' split
  all_goals simp
@[simp] theorem feedHoldTest_vtr (s : State) : (feedHoldTest s).vtr = s.vtr := by
  simp only [feedHoldTest]; repeat' split
  all_goals simp
@[simp] theorem feedHoldTest_spl (s : State) : (feedHoldTest s).spl = s.spl := by
  simp only [feedHoldTest]; repeat' split
  all_goals simp
@[simp] theorem feedHoldTest_governorL (s : State) : (feedHoldTest s).governorL = s.governorL := by
  simp only [feedHoldTest]; repeat' split
  all_goals simp
@[simp] theorem feedHoldTest_governorR (s : State) : (feedHoldTest s).governorR = s.governorR := by
  simp only [feedHoldTest]; repeat' split
  all_goals simp
@[simp] theorem feedHoldTest_governor (s : State) (drum : Drum) :
    (feedHoldTest s).governor drum = s.governor drum := by
  cases drum <;> simp [State.governor]
@[simp] theorem feedHoldTest_nSet (s : State) : (feedHoldTest s).nSet = s.nSet := by
  simp only [feedHoldTest]; repeat' split
  all_goals simp
@[simp] theorem feedHoldTest_pps (s : State) : (feedHoldTest s).pps = s.pps := by
  simp only [feedHoldTest]; repeat' split
  all_goals simp
@[simp] theorem feedHoldTest_sbm (s : State) : (feedHoldTest s).sbm = s.sbm := by
  simp only [feedHoldTest]; repeat' split
  all_goals simp
@[simp] theorem feedHoldTest_tst (s : State) : (feedHoldTest s).tst = s.tst := by
  simp only [feedHoldTest]; repeat' split
  all_goals simp
@[simp] theorem feedHoldTest_rpu (s : State) : (feedHoldTest s).rpu = s.rpu := by
  simp only [feedHoldTest]; repeat' split
  all_goals simp
@[simp] theorem feedHoldTest_freeSeq (s : State) : (feedHoldTest s).freeSeq = s.freeSeq := by
  simp only [feedHoldTest]; repeat' split
  all_goals simp
@[simp] theorem feedHoldTest_pending (s : State) : (feedHoldTest s).pending = s.pending := by
  simp only [feedHoldTest]; repeat' split
  all_goals simp

/-! ### accountUpdate -/

@[simp] theorem accountUpdate_headTime (n m : Nat) (s : State) : (accountUpdate n m s).headTime = s.headTime := by
  simp [accountUpdate]
@[simp] theorem accountUpdate_vtr (n m : Nat) (s : State) : (accountUpdate n m s).vtr = s.vtr := by
  simp [accountUpdate]
@[simp] theorem accountUpdate_spl (n m : Nat) (s : State) : (accountUpdate n m s).spl = s.spl := by
  simp [accountUpdate]
@[simp] theorem accountUpdate_governorL (n m : Nat) (s : State) : (accountUpdate n m s).governorL = s.governorL := by
  simp [accountUpdate]
@[simp] theorem accountUpdate_governorR (n m : Nat) (s : State) : (accountUpdate n m s).governorR = s.governorR := by
  simp [accountUpdate]
@[simp] theorem accountUpdate_governor (n m : Nat) (s : State) (drum : Drum) :
    (accountUpdate n m s).governor drum = s.governor drum := by
  cases drum <;> simp [State.governor]
@[simp] theorem accountUpdate_nSet (n m : Nat) (s : State) : (accountUpdate n m s).nSet = s.nSet := by
  simp [accountUpdate]
@[simp] theorem accountUpdate_pps (n m : Nat) (s : State) : (accountUpdate n m s).pps = s.pps := by
  simp [accountUpdate]
@[simp] theorem accountUpdate_sbm (n m : Nat) (s : State) : (accountUpdate n m s).sbm = s.sbm := by
  simp [accountUpdate]
@[simp] theorem accountUpdate_tst (n m : Nat) (s : State) : (accountUpdate n m s).tst = s.tst := by
  simp [accountUpdate]
@[simp] theorem accountUpdate_freeSeq (n m : Nat) (s : State) : (accountUpdate n m s).freeSeq = s.freeSeq := by
  simp [accountUpdate]
@[simp] theorem accountUpdate_pending (n m : Nat) (s : State) : (accountUpdate n m s).pending = s.pending := by
  simp [accountUpdate]

/-! ### cutTerm -/

@[simp] theorem cutTerm_headTime (n : Nat) (s : State) : (cutTerm n s).headTime = s.headTime := by
  simp [cutTerm]
@[simp] theorem cutTerm_vtr (n : Nat) (s : State) : (cutTerm n s).vtr = s.vtr := by
  simp [cutTerm]
@[simp] theorem cutTerm_spl (n : Nat) (s : State) : (cutTerm n s).spl = s.spl := by
  simp [cutTerm]
@[simp] theorem cutTerm_governorL (n : Nat) (s : State) : (cutTerm n s).governorL = s.governorL := by
  simp [cutTerm]
@[simp] theorem cutTerm_governorR (n : Nat) (s : State) : (cutTerm n s).governorR = s.governorR := by
  simp [cutTerm]
@[simp] theorem cutTerm_governor (n : Nat) (s : State) (drum : Drum) :
    (cutTerm n s).governor drum = s.governor drum := by
  cases drum <;> simp [State.governor]
@[simp] theorem cutTerm_nSet (n : Nat) (s : State) : (cutTerm n s).nSet = s.nSet := by
  simp [cutTerm]
@[simp] theorem cutTerm_pps (n : Nat) (s : State) : (cutTerm n s).pps = s.pps := by
  simp [cutTerm]
@[simp] theorem cutTerm_sbm (n : Nat) (s : State) : (cutTerm n s).sbm = s.sbm := by
  simp [cutTerm]
@[simp] theorem cutTerm_tst (n : Nat) (s : State) : (cutTerm n s).tst = s.tst := by
  simp [cutTerm]
@[simp] theorem cutTerm_freeSeq (n : Nat) (s : State) : (cutTerm n s).freeSeq = s.freeSeq := by
  simp [cutTerm]
@[simp] theorem cutTerm_pending (n : Nat) (s : State) : (cutTerm n s).pending = s.pending := by
  simp [cutTerm]

/-! ### slurrySample -/

@[simp] theorem slurrySample_headTime (x : SlurrySample) (s : State) : (slurrySample x s).headTime = s.headTime := by
  simp [slurrySample]
@[simp] theorem slurrySample_vtr (x : SlurrySample) (s : State) : (slurrySample x s).vtr = s.vtr := by
  simp [slurrySample]
@[simp] theorem slurrySample_spl (x : SlurrySample) (s : State) : (slurrySample x s).spl = s.spl := by
  simp [slurrySample]
@[simp] theorem slurrySample_governorL (x : SlurrySample) (s : State) :
    (slurrySample x s).governorL = s.governorL := by
  simp [slurrySample]
@[simp] theorem slurrySample_governorR (x : SlurrySample) (s : State) :
    (slurrySample x s).governorR = s.governorR := by
  simp [slurrySample]
@[simp] theorem slurrySample_governor (x : SlurrySample) (s : State) (drum : Drum) :
    (slurrySample x s).governor drum = s.governor drum := by
  cases drum <;> simp [State.governor]
@[simp] theorem slurrySample_nSet (x : SlurrySample) (s : State) : (slurrySample x s).nSet = s.nSet := by
  simp [slurrySample]
@[simp] theorem slurrySample_pps (x : SlurrySample) (s : State) : (slurrySample x s).pps = s.pps := by
  simp [slurrySample]
@[simp] theorem slurrySample_sbm (x : SlurrySample) (s : State) : (slurrySample x s).sbm = s.sbm := by
  simp [slurrySample]
@[simp] theorem slurrySample_tst (x : SlurrySample) (s : State) : (slurrySample x s).tst = s.tst := by
  simp [slurrySample]
@[simp] theorem slurrySample_freeSeq (x : SlurrySample) (s : State) : (slurrySample x s).freeSeq = s.freeSeq := by
  simp [slurrySample]
@[simp] theorem slurrySample_pending (x : SlurrySample) (s : State) : (slurrySample x s).pending = s.pending := by
  simp [slurrySample]

/-! ### slurryActivated -/

@[simp] theorem slurryActivated_headTime (s : State) : (slurryActivated s).headTime = s.headTime := by
  simp [slurryActivated]
@[simp] theorem slurryActivated_vtr (s : State) : (slurryActivated s).vtr = s.vtr := by
  simp [slurryActivated]
@[simp] theorem slurryActivated_spl (s : State) : (slurryActivated s).spl = s.spl := by
  simp [slurryActivated]
@[simp] theorem slurryActivated_governorL (s : State) : (slurryActivated s).governorL = s.governorL := by
  simp [slurryActivated]
@[simp] theorem slurryActivated_governorR (s : State) : (slurryActivated s).governorR = s.governorR := by
  simp [slurryActivated]
@[simp] theorem slurryActivated_governor (s : State) (drum : Drum) :
    (slurryActivated s).governor drum = s.governor drum := by
  cases drum <;> simp [State.governor]
@[simp] theorem slurryActivated_nSet (s : State) : (slurryActivated s).nSet = s.nSet := by
  simp [slurryActivated]
@[simp] theorem slurryActivated_pps (s : State) : (slurryActivated s).pps = s.pps := by
  simp [slurryActivated]
@[simp] theorem slurryActivated_sbm (s : State) : (slurryActivated s).sbm = s.sbm := by
  simp [slurryActivated]
@[simp] theorem slurryActivated_tst (s : State) : (slurryActivated s).tst = s.tst := by
  simp [slurryActivated]
@[simp] theorem slurryActivated_ulp (s : State) : (slurryActivated s).ulp = s.ulp := by
  simp [slurryActivated]
@[simp] theorem slurryActivated_rpu (s : State) : (slurryActivated s).rpu = s.rpu := by
  simp [slurryActivated]
@[simp] theorem slurryActivated_freeSeq (s : State) : (slurryActivated s).freeSeq = s.freeSeq := by
  simp [slurryActivated]
@[simp] theorem slurryActivated_pending (s : State) : (slurryActivated s).pending = s.pending := by
  simp [slurryActivated]

/-! ### refreshExpiry -/

@[simp] theorem refreshExpiry_headTime (s : State) : (refreshExpiry s).headTime = s.headTime := by
  simp [refreshExpiry]; split <;> simp
@[simp] theorem refreshExpiry_vtr (s : State) : (refreshExpiry s).vtr = s.vtr := by
  simp [refreshExpiry]; split <;> simp
@[simp] theorem refreshExpiry_spl (s : State) : (refreshExpiry s).spl = s.spl := by
  simp [refreshExpiry]; split <;> simp
@[simp] theorem refreshExpiry_governorL (s : State) : (refreshExpiry s).governorL = s.governorL := by
  simp [refreshExpiry]; split <;> simp
@[simp] theorem refreshExpiry_governorR (s : State) : (refreshExpiry s).governorR = s.governorR := by
  simp [refreshExpiry]; split <;> simp
@[simp] theorem refreshExpiry_governor (s : State) (drum : Drum) :
    (refreshExpiry s).governor drum = s.governor drum := by
  cases drum <;> simp [State.governor]
@[simp] theorem refreshExpiry_nSet (s : State) : (refreshExpiry s).nSet = s.nSet := by
  simp [refreshExpiry]; split <;> simp
@[simp] theorem refreshExpiry_pps (s : State) : (refreshExpiry s).pps = s.pps := by
  simp [refreshExpiry]; split <;> simp
@[simp] theorem refreshExpiry_sbm (s : State) : (refreshExpiry s).sbm = s.sbm := by
  simp [refreshExpiry]; split <;> simp
@[simp] theorem refreshExpiry_tst (s : State) : (refreshExpiry s).tst = s.tst := by
  simp [refreshExpiry]; split <;> simp
@[simp] theorem refreshExpiry_rpu (s : State) : (refreshExpiry s).rpu = s.rpu := by
  simp [refreshExpiry]; split <;> simp
@[simp] theorem refreshExpiry_freeSeq (s : State) : (refreshExpiry s).freeSeq = s.freeSeq := by
  simp [refreshExpiry]; split <;> simp
@[simp] theorem refreshExpiry_pending (s : State) : (refreshExpiry s).pending = s.pending := by
  simp [refreshExpiry]; split <;> simp

/-! ### primeExpiry -/

@[simp] theorem primeExpiry_headTime (s : State) : (primeExpiry s).headTime = s.headTime := by
  simp [primeExpiry]; split <;> simp
@[simp] theorem primeExpiry_vtr (s : State) : (primeExpiry s).vtr = s.vtr := by
  simp [primeExpiry]; split <;> simp
@[simp] theorem primeExpiry_spl (s : State) : (primeExpiry s).spl = s.spl := by
  simp [primeExpiry]; split <;> simp
@[simp] theorem primeExpiry_governorL (s : State) : (primeExpiry s).governorL = s.governorL := by
  simp [primeExpiry]; split <;> simp
@[simp] theorem primeExpiry_governorR (s : State) : (primeExpiry s).governorR = s.governorR := by
  simp [primeExpiry]; split <;> simp
@[simp] theorem primeExpiry_governor (s : State) (drum : Drum) :
    (primeExpiry s).governor drum = s.governor drum := by
  cases drum <;> simp [State.governor]
@[simp] theorem primeExpiry_nSet (s : State) : (primeExpiry s).nSet = s.nSet := by
  simp [primeExpiry]; split <;> simp
@[simp] theorem primeExpiry_pps (s : State) : (primeExpiry s).pps = s.pps := by
  simp [primeExpiry]; split <;> simp
@[simp] theorem primeExpiry_sbm (s : State) : (primeExpiry s).sbm = s.sbm := by
  simp [primeExpiry]; split <;> simp
@[simp] theorem primeExpiry_tst (s : State) : (primeExpiry s).tst = s.tst := by
  simp [primeExpiry]; split <;> simp
@[simp] theorem primeExpiry_ulp (s : State) : (primeExpiry s).ulp = s.ulp := by
  simp [primeExpiry]; split <;> simp
@[simp] theorem primeExpiry_freeSeq (s : State) : (primeExpiry s).freeSeq = s.freeSeq := by
  simp [primeExpiry]; split <;> simp
@[simp] theorem primeExpiry_pending (s : State) : (primeExpiry s).pending = s.pending := by
  simp [primeExpiry]; split <;> simp

/-! ### dryExpiry -/

@[simp] theorem dryExpiry_headTime (s : State) : (dryExpiry s).headTime = s.headTime := by
  simp [dryExpiry]; split <;> simp
@[simp] theorem dryExpiry_vtr (s : State) : (dryExpiry s).vtr = s.vtr := by
  simp [dryExpiry]; split <;> simp
@[simp] theorem dryExpiry_spl (s : State) : (dryExpiry s).spl = s.spl := by
  simp [dryExpiry]; split <;> simp
@[simp] theorem dryExpiry_governorL (s : State) : (dryExpiry s).governorL = s.governorL := by
  simp [dryExpiry]; split <;> simp
@[simp] theorem dryExpiry_governorR (s : State) : (dryExpiry s).governorR = s.governorR := by
  simp [dryExpiry]; split <;> simp
@[simp] theorem dryExpiry_governor (s : State) (drum : Drum) :
    (dryExpiry s).governor drum = s.governor drum := by
  cases drum <;> simp [State.governor]
@[simp] theorem dryExpiry_nSet (s : State) : (dryExpiry s).nSet = s.nSet := by
  simp [dryExpiry]; split <;> simp
@[simp] theorem dryExpiry_pps (s : State) : (dryExpiry s).pps = s.pps := by
  simp [dryExpiry]; split <;> simp
@[simp] theorem dryExpiry_sbm (s : State) : (dryExpiry s).sbm = s.sbm := by
  simp [dryExpiry]; split <;> simp
@[simp] theorem dryExpiry_tst (s : State) : (dryExpiry s).tst = s.tst := by
  simp [dryExpiry]; split <;> simp
@[simp] theorem dryExpiry_ulp (s : State) : (dryExpiry s).ulp = s.ulp := by
  simp [dryExpiry]; split <;> simp
@[simp] theorem dryExpiry_freeSeq (s : State) : (dryExpiry s).freeSeq = s.freeSeq := by
  simp [dryExpiry]; split <;> simp
@[simp] theorem dryExpiry_pending (s : State) : (dryExpiry s).pending = s.pending := by
  simp [dryExpiry]; split <;> simp

/-! ### pumpOffTimeExpiry -/

@[simp] theorem pumpOffTimeExpiry_headTime (s : State) : (pumpOffTimeExpiry s).headTime = s.headTime := by
  simp only [pumpOffTimeExpiry]; repeat' split
  all_goals simp
@[simp] theorem pumpOffTimeExpiry_vtr (s : State) : (pumpOffTimeExpiry s).vtr = s.vtr := by
  simp only [pumpOffTimeExpiry]; repeat' split
  all_goals simp
@[simp] theorem pumpOffTimeExpiry_spl (s : State) : (pumpOffTimeExpiry s).spl = s.spl := by
  simp only [pumpOffTimeExpiry]; repeat' split
  all_goals simp
@[simp] theorem pumpOffTimeExpiry_governorL (s : State) : (pumpOffTimeExpiry s).governorL = s.governorL := by
  simp only [pumpOffTimeExpiry]; repeat' split
  all_goals simp
@[simp] theorem pumpOffTimeExpiry_governorR (s : State) : (pumpOffTimeExpiry s).governorR = s.governorR := by
  simp only [pumpOffTimeExpiry]; repeat' split
  all_goals simp
@[simp] theorem pumpOffTimeExpiry_governor (s : State) (drum : Drum) :
    (pumpOffTimeExpiry s).governor drum = s.governor drum := by
  cases drum <;> simp [State.governor]
@[simp] theorem pumpOffTimeExpiry_nSet (s : State) : (pumpOffTimeExpiry s).nSet = s.nSet := by
  simp only [pumpOffTimeExpiry]; repeat' split
  all_goals simp
@[simp] theorem pumpOffTimeExpiry_pps (s : State) : (pumpOffTimeExpiry s).pps = s.pps := by
  simp only [pumpOffTimeExpiry]; repeat' split
  all_goals simp
@[simp] theorem pumpOffTimeExpiry_sbm (s : State) : (pumpOffTimeExpiry s).sbm = s.sbm := by
  simp only [pumpOffTimeExpiry]; repeat' split
  all_goals simp
@[simp] theorem pumpOffTimeExpiry_tst (s : State) : (pumpOffTimeExpiry s).tst = s.tst := by
  simp only [pumpOffTimeExpiry]; repeat' split
  all_goals simp
@[simp] theorem pumpOffTimeExpiry_ulp (s : State) : (pumpOffTimeExpiry s).ulp = s.ulp := by
  simp only [pumpOffTimeExpiry]; repeat' split
  all_goals simp
@[simp] theorem pumpOffTimeExpiry_rpu (s : State) : (pumpOffTimeExpiry s).rpu = s.rpu := by
  simp only [pumpOffTimeExpiry]; repeat' split
  all_goals simp
@[simp] theorem pumpOffTimeExpiry_freeSeq (s : State) : (pumpOffTimeExpiry s).freeSeq = s.freeSeq := by
  simp only [pumpOffTimeExpiry]; repeat' split
  all_goals simp
@[simp] theorem pumpOffTimeExpiry_pending (s : State) : (pumpOffTimeExpiry s).pending = s.pending := by
  simp only [pumpOffTimeExpiry]; repeat' split
  all_goals simp

end Sys2Proof.Machine
end

