-- ==== Sys2Proof/Laws/FrameGovernors.lean ====
section
/-! SUPPORT. The frames of the operations of Machine/Governors.lean: each field of State an operation leaves as it was. -/

namespace Sys2Proof.Machine

/-! ### takeNSet -/

@[simp] theorem takeNSet_headTime (n : Nat) (s : State) : (takeNSet n s).headTime = s.headTime := by
  simp [takeNSet]
@[simp] theorem takeNSet_vtr (n : Nat) (s : State) : (takeNSet n s).vtr = s.vtr := by
  simp [takeNSet]
@[simp] theorem takeNSet_spl (n : Nat) (s : State) : (takeNSet n s).spl = s.spl := by
  simp [takeNSet]
@[simp] theorem takeNSet_governorL (n : Nat) (s : State) : (takeNSet n s).governorL = s.governorL := by
  simp [takeNSet]
@[simp] theorem takeNSet_governorR (n : Nat) (s : State) : (takeNSet n s).governorR = s.governorR := by
  simp [takeNSet]
@[simp] theorem takeNSet_governor (n : Nat) (s : State) (drum : Drum) :
    (takeNSet n s).governor drum = s.governor drum := by
  cases drum <;> simp [State.governor]
@[simp] theorem takeNSet_sru (n : Nat) (s : State) : (takeNSet n s).sru = s.sru := by
  simp [takeNSet]
@[simp] theorem takeNSet_pps (n : Nat) (s : State) : (takeNSet n s).pps = s.pps := by
  simp [takeNSet]
@[simp] theorem takeNSet_sbm (n : Nat) (s : State) : (takeNSet n s).sbm = s.sbm := by
  simp [takeNSet]
@[simp] theorem takeNSet_tst (n : Nat) (s : State) : (takeNSet n s).tst = s.tst := by
  simp [takeNSet]
@[simp] theorem takeNSet_rpu (n : Nat) (s : State) : (takeNSet n s).rpu = s.rpu := by
  simp [takeNSet]
@[simp] theorem takeNSet_freeSeq (n : Nat) (s : State) : (takeNSet n s).freeSeq = s.freeSeq := by
  simp [takeNSet]
@[simp] theorem takeNSet_pending (n : Nat) (s : State) : (takeNSet n s).pending = s.pending := by
  simp [takeNSet]

/-! ### takeDrumFields -/

@[simp] theorem takeDrumFields_headTime (d : Drum) (v e : Byte) (s : State) :
    (takeDrumFields d v e s).headTime = s.headTime := by
  simp [takeDrumFields]
@[simp] theorem takeDrumFields_vtr (d : Drum) (v e : Byte) (s : State) : (takeDrumFields d v e s).vtr = s.vtr := by
  simp [takeDrumFields]
@[simp] theorem takeDrumFields_spl (d : Drum) (v e : Byte) (s : State) : (takeDrumFields d v e s).spl = s.spl := by
  simp [takeDrumFields]
@[simp] theorem takeDrumFields_nSet (d : Drum) (v e : Byte) (s : State) : (takeDrumFields d v e s).nSet = s.nSet := by
  simp [takeDrumFields]
@[simp] theorem takeDrumFields_sru (d : Drum) (v e : Byte) (s : State) : (takeDrumFields d v e s).sru = s.sru := by
  simp [takeDrumFields]
@[simp] theorem takeDrumFields_pps (d : Drum) (v e : Byte) (s : State) : (takeDrumFields d v e s).pps = s.pps := by
  simp [takeDrumFields]
@[simp] theorem takeDrumFields_sbm (d : Drum) (v e : Byte) (s : State) : (takeDrumFields d v e s).sbm = s.sbm := by
  simp [takeDrumFields]
@[simp] theorem takeDrumFields_tst (d : Drum) (v e : Byte) (s : State) : (takeDrumFields d v e s).tst = s.tst := by
  simp [takeDrumFields]
@[simp] theorem takeDrumFields_rpu (d : Drum) (v e : Byte) (s : State) : (takeDrumFields d v e s).rpu = s.rpu := by
  simp [takeDrumFields]
@[simp] theorem takeDrumFields_freeSeq (d : Drum) (v e : Byte) (s : State) :
    (takeDrumFields d v e s).freeSeq = s.freeSeq := by
  simp [takeDrumFields]
@[simp] theorem takeDrumFields_pending (d : Drum) (v e : Byte) (s : State) :
    (takeDrumFields d v e s).pending = s.pending := by
  simp [takeDrumFields]

/-! ### tripDrum -/

@[simp] theorem tripDrum_headTime (d : Drum) (n : Nat) (s : State) : (tripDrum d n s).headTime = s.headTime := by
  simp [tripDrum]
@[simp] theorem tripDrum_vtr (d : Drum) (n : Nat) (s : State) : (tripDrum d n s).vtr = s.vtr := by
  simp [tripDrum]
@[simp] theorem tripDrum_spl (d : Drum) (n : Nat) (s : State) : (tripDrum d n s).spl = s.spl := by
  simp [tripDrum]
@[simp] theorem tripDrum_nSet (d : Drum) (n : Nat) (s : State) : (tripDrum d n s).nSet = s.nSet := by
  simp [tripDrum]
@[simp] theorem tripDrum_sru (d : Drum) (n : Nat) (s : State) : (tripDrum d n s).sru = s.sru := by
  simp [tripDrum]
@[simp] theorem tripDrum_pps (d : Drum) (n : Nat) (s : State) : (tripDrum d n s).pps = s.pps := by
  simp [tripDrum]
@[simp] theorem tripDrum_sbm (d : Drum) (n : Nat) (s : State) : (tripDrum d n s).sbm = s.sbm := by
  simp [tripDrum]
@[simp] theorem tripDrum_tst (d : Drum) (n : Nat) (s : State) : (tripDrum d n s).tst = s.tst := by
  simp [tripDrum]
@[simp] theorem tripDrum_ulp (d : Drum) (n : Nat) (s : State) : (tripDrum d n s).ulp = s.ulp := by
  simp [tripDrum]
@[simp] theorem tripDrum_freeSeq (d : Drum) (n : Nat) (s : State) : (tripDrum d n s).freeSeq = s.freeSeq := by
  simp [tripDrum]
@[simp] theorem tripDrum_pending (d : Drum) (n : Nat) (s : State) : (tripDrum d n s).pending = s.pending := by
  simp [tripDrum]

/-! ### drumSample -/

@[simp] theorem drumSample_headTime (d : Drum) (x : DrumSample) (s : State) :
    (drumSample d x s).headTime = s.headTime := by
  simp only [drumSample]; repeat' split
  all_goals simp
@[simp] theorem drumSample_vtr (d : Drum) (x : DrumSample) (s : State) : (drumSample d x s).vtr = s.vtr := by
  simp only [drumSample]; repeat' split
  all_goals simp
@[simp] theorem drumSample_spl (d : Drum) (x : DrumSample) (s : State) : (drumSample d x s).spl = s.spl := by
  simp only [drumSample]; repeat' split
  all_goals simp
@[simp] theorem drumSample_nSet (d : Drum) (x : DrumSample) (s : State) : (drumSample d x s).nSet = s.nSet := by
  simp only [drumSample]; repeat' split
  all_goals simp
@[simp] theorem drumSample_sru (d : Drum) (x : DrumSample) (s : State) : (drumSample d x s).sru = s.sru := by
  simp only [drumSample]; repeat' split
  all_goals simp
@[simp] theorem drumSample_pps (d : Drum) (x : DrumSample) (s : State) : (drumSample d x s).pps = s.pps := by
  simp only [drumSample]; repeat' split
  all_goals simp
@[simp] theorem drumSample_sbm (d : Drum) (x : DrumSample) (s : State) : (drumSample d x s).sbm = s.sbm := by
  simp only [drumSample]; repeat' split
  all_goals simp
@[simp] theorem drumSample_tst (d : Drum) (x : DrumSample) (s : State) : (drumSample d x s).tst = s.tst := by
  simp only [drumSample]; repeat' split
  all_goals simp
@[simp] theorem drumSample_ulp (d : Drum) (x : DrumSample) (s : State) : (drumSample d x s).ulp = s.ulp := by
  simp only [drumSample]; repeat' split
  all_goals simp
@[simp] theorem drumSample_freeSeq (d : Drum) (x : DrumSample) (s : State) :
    (drumSample d x s).freeSeq = s.freeSeq := by
  simp only [drumSample]; repeat' split
  all_goals simp
@[simp] theorem drumSample_pending (d : Drum) (x : DrumSample) (s : State) :
    (drumSample d x s).pending = s.pending := by
  simp only [drumSample]; repeat' split
  all_goals simp

/-! ### onGovernor -/

@[simp] theorem onGovernor_headTime (f : Governor → Governor) (d : Drum) (s : State) :
    (onGovernor f d s).headTime = s.headTime := by
  simp [onGovernor]
@[simp] theorem onGovernor_vtr (f : Governor → Governor) (d : Drum) (s : State) : (onGovernor f d s).vtr = s.vtr := by
  simp [onGovernor]
@[simp] theorem onGovernor_spl (f : Governor → Governor) (d : Drum) (s : State) : (onGovernor f d s).spl = s.spl := by
  simp [onGovernor]
@[simp] theorem onGovernor_nSet (f : Governor → Governor) (d : Drum) (s : State) :
    (onGovernor f d s).nSet = s.nSet := by
  simp [onGovernor]
@[simp] theorem onGovernor_sru (f : Governor → Governor) (d : Drum) (s : State) : (onGovernor f d s).sru = s.sru := by
  simp [onGovernor]
@[simp] theorem onGovernor_pps (f : Governor → Governor) (d : Drum) (s : State) : (onGovernor f d s).pps = s.pps := by
  simp [onGovernor]
@[simp] theorem onGovernor_sbm (f : Governor → Governor) (d : Drum) (s : State) : (onGovernor f d s).sbm = s.sbm := by
  simp [onGovernor]
@[simp] theorem onGovernor_tst (f : Governor → Governor) (d : Drum) (s : State) : (onGovernor f d s).tst = s.tst := by
  simp [onGovernor]
@[simp] theorem onGovernor_ulp (f : Governor → Governor) (d : Drum) (s : State) : (onGovernor f d s).ulp = s.ulp := by
  simp [onGovernor]
@[simp] theorem onGovernor_rpu (f : Governor → Governor) (d : Drum) (s : State) : (onGovernor f d s).rpu = s.rpu := by
  simp [onGovernor]
@[simp] theorem onGovernor_freeSeq (f : Governor → Governor) (d : Drum) (s : State) :
    (onGovernor f d s).freeSeq = s.freeSeq := by
  simp [onGovernor]
@[simp] theorem onGovernor_pending (f : Governor → Governor) (d : Drum) (s : State) :
    (onGovernor f d s).pending = s.pending := by
  simp [onGovernor]

/-! ### onGovernors -/

@[simp] theorem onGovernors_headTime (f : Governor → Governor) (s : State) :
    (onGovernors f s).headTime = s.headTime := by
  simp [onGovernors]
@[simp] theorem onGovernors_vtr (f : Governor → Governor) (s : State) : (onGovernors f s).vtr = s.vtr := by
  simp [onGovernors]
@[simp] theorem onGovernors_spl (f : Governor → Governor) (s : State) : (onGovernors f s).spl = s.spl := by
  simp [onGovernors]
@[simp] theorem onGovernors_nSet (f : Governor → Governor) (s : State) : (onGovernors f s).nSet = s.nSet := by
  simp [onGovernors]
@[simp] theorem onGovernors_sru (f : Governor → Governor) (s : State) : (onGovernors f s).sru = s.sru := by
  simp [onGovernors]
@[simp] theorem onGovernors_pps (f : Governor → Governor) (s : State) : (onGovernors f s).pps = s.pps := by
  simp [onGovernors]
@[simp] theorem onGovernors_sbm (f : Governor → Governor) (s : State) : (onGovernors f s).sbm = s.sbm := by
  simp [onGovernors]
@[simp] theorem onGovernors_tst (f : Governor → Governor) (s : State) : (onGovernors f s).tst = s.tst := by
  simp [onGovernors]
@[simp] theorem onGovernors_ulp (f : Governor → Governor) (s : State) : (onGovernors f s).ulp = s.ulp := by
  simp [onGovernors]
@[simp] theorem onGovernors_rpu (f : Governor → Governor) (s : State) : (onGovernors f s).rpu = s.rpu := by
  simp [onGovernors]
@[simp] theorem onGovernors_freeSeq (f : Governor → Governor) (s : State) :
    (onGovernors f s).freeSeq = s.freeSeq := by
  simp [onGovernors]
@[simp] theorem onGovernors_pending (f : Governor → Governor) (s : State) :
    (onGovernors f s).pending = s.pending := by
  simp [onGovernors]

/-! ### drumOffTimeExpiry -/

@[simp] theorem drumOffTimeExpiry_headTime (d : Drum) (s : State) :
    (drumOffTimeExpiry d s).headTime = s.headTime := by
  simp only [drumOffTimeExpiry]; repeat' split
  all_goals simp
@[simp] theorem drumOffTimeExpiry_vtr (d : Drum) (s : State) : (drumOffTimeExpiry d s).vtr = s.vtr := by
  simp only [drumOffTimeExpiry]; repeat' split
  all_goals simp
@[simp] theorem drumOffTimeExpiry_spl (d : Drum) (s : State) : (drumOffTimeExpiry d s).spl = s.spl := by
  simp only [drumOffTimeExpiry]; repeat' split
  all_goals simp
@[simp] theorem drumOffTimeExpiry_nSet (d : Drum) (s : State) : (drumOffTimeExpiry d s).nSet = s.nSet := by
  simp only [drumOffTimeExpiry]; repeat' split
  all_goals simp
@[simp] theorem drumOffTimeExpiry_sru (d : Drum) (s : State) : (drumOffTimeExpiry d s).sru = s.sru := by
  simp only [drumOffTimeExpiry]; repeat' split
  all_goals simp
@[simp] theorem drumOffTimeExpiry_pps (d : Drum) (s : State) : (drumOffTimeExpiry d s).pps = s.pps := by
  simp only [drumOffTimeExpiry]; repeat' split
  all_goals simp
@[simp] theorem drumOffTimeExpiry_sbm (d : Drum) (s : State) : (drumOffTimeExpiry d s).sbm = s.sbm := by
  simp only [drumOffTimeExpiry]; repeat' split
  all_goals simp
@[simp] theorem drumOffTimeExpiry_tst (d : Drum) (s : State) : (drumOffTimeExpiry d s).tst = s.tst := by
  simp only [drumOffTimeExpiry]; repeat' split
  all_goals simp
@[simp] theorem drumOffTimeExpiry_ulp (d : Drum) (s : State) : (drumOffTimeExpiry d s).ulp = s.ulp := by
  simp only [drumOffTimeExpiry]; repeat' split
  all_goals simp
@[simp] theorem drumOffTimeExpiry_rpu (d : Drum) (s : State) : (drumOffTimeExpiry d s).rpu = s.rpu := by
  simp only [drumOffTimeExpiry]; repeat' split
  all_goals simp
@[simp] theorem drumOffTimeExpiry_freeSeq (d : Drum) (s : State) : (drumOffTimeExpiry d s).freeSeq = s.freeSeq := by
  simp only [drumOffTimeExpiry]; repeat' split
  all_goals simp
@[simp] theorem drumOffTimeExpiry_pending (d : Drum) (s : State) : (drumOffTimeExpiry d s).pending = s.pending := by
  simp only [drumOffTimeExpiry]; repeat' split
  all_goals simp

end Sys2Proof.Machine
end

