-- ==== Sys2Proof/Laws/FrameTracker.lean ====
section
/-! SUPPORT. The frames of the operations of Machine/Tracker.lean: each field of State an operation leaves as it was. -/

namespace Sys2Proof.Machine

/-! ### rejectDepth -/

@[simp] theorem rejectDepth_headTime (v : Nat) (s : State) : (rejectDepth v s).headTime = s.headTime := by
  simp [rejectDepth]
@[simp] theorem rejectDepth_spl (v : Nat) (s : State) : (rejectDepth v s).spl = s.spl := by
  simp [rejectDepth]
@[simp] theorem rejectDepth_governorL (v : Nat) (s : State) : (rejectDepth v s).governorL = s.governorL := by
  simp [rejectDepth]
@[simp] theorem rejectDepth_governorR (v : Nat) (s : State) : (rejectDepth v s).governorR = s.governorR := by
  simp [rejectDepth]
@[simp] theorem rejectDepth_governor (v : Nat) (s : State) (drum : Drum) :
    (rejectDepth v s).governor drum = s.governor drum := by
  cases drum <;> simp [State.governor]
@[simp] theorem rejectDepth_nSet (v : Nat) (s : State) : (rejectDepth v s).nSet = s.nSet := by
  simp [rejectDepth]
@[simp] theorem rejectDepth_sru (v : Nat) (s : State) : (rejectDepth v s).sru = s.sru := by
  simp [rejectDepth]
@[simp] theorem rejectDepth_pps (v : Nat) (s : State) : (rejectDepth v s).pps = s.pps := by
  simp [rejectDepth]
@[simp] theorem rejectDepth_sbm (v : Nat) (s : State) : (rejectDepth v s).sbm = s.sbm := by
  simp [rejectDepth]
@[simp] theorem rejectDepth_tst (v : Nat) (s : State) : (rejectDepth v s).tst = s.tst := by
  simp [rejectDepth]
@[simp] theorem rejectDepth_ulp (v : Nat) (s : State) : (rejectDepth v s).ulp = s.ulp := by
  simp [rejectDepth]
@[simp] theorem rejectDepth_freeSeq (v : Nat) (s : State) : (rejectDepth v s).freeSeq = s.freeSeq := by
  simp [rejectDepth]
@[simp] theorem rejectDepth_pending (v : Nat) (s : State) : (rejectDepth v s).pending = s.pending := by
  simp [rejectDepth]

/-! ### postDisagree -/

@[simp] theorem postDisagree_headTime (m : MountingParams) (v : Vtr) (a : Axis) (s : State) :
    (postDisagree m v a s).headTime = s.headTime := by
  simp [postDisagree]; split <;> simp
@[simp] theorem postDisagree_vtr (m : MountingParams) (v : Vtr) (a : Axis) (s : State) :
    (postDisagree m v a s).vtr = s.vtr := by
  simp [postDisagree]; split <;> simp
@[simp] theorem postDisagree_spl (m : MountingParams) (v : Vtr) (a : Axis) (s : State) :
    (postDisagree m v a s).spl = s.spl := by
  simp [postDisagree]; split <;> simp
@[simp] theorem postDisagree_governorL (m : MountingParams) (v : Vtr) (a : Axis) (s : State) :
    (postDisagree m v a s).governorL = s.governorL := by
  simp [postDisagree]; split <;> simp
@[simp] theorem postDisagree_governorR (m : MountingParams) (v : Vtr) (a : Axis) (s : State) :
    (postDisagree m v a s).governorR = s.governorR := by
  simp [postDisagree]; split <;> simp
@[simp] theorem postDisagree_governor (m : MountingParams) (v : Vtr) (a : Axis) (s : State) (drum : Drum) :
    (postDisagree m v a s).governor drum = s.governor drum := by
  cases drum <;> simp [State.governor]
@[simp] theorem postDisagree_nSet (m : MountingParams) (v : Vtr) (a : Axis) (s : State) :
    (postDisagree m v a s).nSet = s.nSet := by
  simp [postDisagree]; split <;> simp
@[simp] theorem postDisagree_sru (m : MountingParams) (v : Vtr) (a : Axis) (s : State) :
    (postDisagree m v a s).sru = s.sru := by
  simp [postDisagree]; split <;> simp
@[simp] theorem postDisagree_pps (m : MountingParams) (v : Vtr) (a : Axis) (s : State) :
    (postDisagree m v a s).pps = s.pps := by
  simp [postDisagree]; split <;> simp
@[simp] theorem postDisagree_sbm (m : MountingParams) (v : Vtr) (a : Axis) (s : State) :
    (postDisagree m v a s).sbm = s.sbm := by
  simp [postDisagree]; split <;> simp
@[simp] theorem postDisagree_tst (m : MountingParams) (v : Vtr) (a : Axis) (s : State) :
    (postDisagree m v a s).tst = s.tst := by
  simp [postDisagree]; split <;> simp
@[simp] theorem postDisagree_ulp (m : MountingParams) (v : Vtr) (a : Axis) (s : State) :
    (postDisagree m v a s).ulp = s.ulp := by
  simp [postDisagree]; split <;> simp
@[simp] theorem postDisagree_freeSeq (m : MountingParams) (v : Vtr) (a : Axis) (s : State) :
    (postDisagree m v a s).freeSeq = s.freeSeq := by
  simp [postDisagree]; split <;> simp
@[simp] theorem postDisagree_pending (m : MountingParams) (v : Vtr) (a : Axis) (s : State) :
    (postDisagree m v a s).pending = s.pending := by
  simp [postDisagree]; split <;> simp

/-! ### closeStation -/

@[simp] theorem closeStation_headTime (r : StationRecord) (d : Nat) (s : State) :
    (closeStation r d s).headTime = s.headTime := by
  simp [closeStation]
@[simp] theorem closeStation_governorL (r : StationRecord) (d : Nat) (s : State) :
    (closeStation r d s).governorL = s.governorL := by
  simp [closeStation]
@[simp] theorem closeStation_governorR (r : StationRecord) (d : Nat) (s : State) :
    (closeStation r d s).governorR = s.governorR := by
  simp [closeStation]
@[simp] theorem closeStation_governor (r : StationRecord) (d : Nat) (s : State) (drum : Drum) :
    (closeStation r d s).governor drum = s.governor drum := by
  cases drum <;> simp [State.governor]
@[simp] theorem closeStation_nSet (r : StationRecord) (d : Nat) (s : State) : (closeStation r d s).nSet = s.nSet := by
  simp [closeStation]
@[simp] theorem closeStation_sru (r : StationRecord) (d : Nat) (s : State) : (closeStation r d s).sru = s.sru := by
  simp [closeStation]
@[simp] theorem closeStation_pps (r : StationRecord) (d : Nat) (s : State) : (closeStation r d s).pps = s.pps := by
  simp [closeStation]
@[simp] theorem closeStation_sbm (r : StationRecord) (d : Nat) (s : State) : (closeStation r d s).sbm = s.sbm := by
  simp [closeStation]
@[simp] theorem closeStation_tst (r : StationRecord) (d : Nat) (s : State) : (closeStation r d s).tst = s.tst := by
  simp [closeStation]
@[simp] theorem closeStation_ulp (r : StationRecord) (d : Nat) (s : State) : (closeStation r d s).ulp = s.ulp := by
  simp [closeStation]
@[simp] theorem closeStation_freeSeq (r : StationRecord) (d : Nat) (s : State) :
    (closeStation r d s).freeSeq = s.freeSeq := by
  simp [closeStation]
@[simp] theorem closeStation_pending (r : StationRecord) (d : Nat) (s : State) :
    (closeStation r d s).pending = s.pending := by
  simp [closeStation]

/-! ### refuseClose -/

@[simp] theorem refuseClose_headTime (d : Nat) (s : State) : (refuseClose d s).headTime = s.headTime := by
  simp [refuseClose]; split <;> simp
@[simp] theorem refuseClose_spl (d : Nat) (s : State) : (refuseClose d s).spl = s.spl := by
  simp [refuseClose]; split <;> simp
@[simp] theorem refuseClose_governorL (d : Nat) (s : State) : (refuseClose d s).governorL = s.governorL := by
  simp [refuseClose]; split <;> simp
@[simp] theorem refuseClose_governorR (d : Nat) (s : State) : (refuseClose d s).governorR = s.governorR := by
  simp [refuseClose]; split <;> simp
@[simp] theorem refuseClose_governor (d : Nat) (s : State) (drum : Drum) :
    (refuseClose d s).governor drum = s.governor drum := by
  cases drum <;> simp [State.governor]
@[simp] theorem refuseClose_nSet (d : Nat) (s : State) : (refuseClose d s).nSet = s.nSet := by
  simp [refuseClose]; split <;> simp
@[simp] theorem refuseClose_sru (d : Nat) (s : State) : (refuseClose d s).sru = s.sru := by
  simp [refuseClose]; split <;> simp
@[simp] theorem refuseClose_pps (d : Nat) (s : State) : (refuseClose d s).pps = s.pps := by
  simp [refuseClose]; split <;> simp
@[simp] theorem refuseClose_sbm (d : Nat) (s : State) : (refuseClose d s).sbm = s.sbm := by
  simp [refuseClose]; split <;> simp
@[simp] theorem refuseClose_tst (d : Nat) (s : State) : (refuseClose d s).tst = s.tst := by
  simp [refuseClose]; split <;> simp
@[simp] theorem refuseClose_ulp (d : Nat) (s : State) : (refuseClose d s).ulp = s.ulp := by
  simp [refuseClose]; split <;> simp
@[simp] theorem refuseClose_freeSeq (d : Nat) (s : State) : (refuseClose d s).freeSeq = s.freeSeq := by
  simp [refuseClose]; split <;> simp
@[simp] theorem refuseClose_pending (d : Nat) (s : State) : (refuseClose d s).pending = s.pending := by
  simp [refuseClose]; split <;> simp

/-! ### closeTest -/

@[simp] theorem closeTest_headTime (d : Nat) (s : State) : (closeTest d s).headTime = s.headTime := by
  simp only [closeTest]; repeat' split
  all_goals simp
@[simp] theorem closeTest_governorL (d : Nat) (s : State) : (closeTest d s).governorL = s.governorL := by
  simp only [closeTest]; repeat' split
  all_goals simp
@[simp] theorem closeTest_governorR (d : Nat) (s : State) : (closeTest d s).governorR = s.governorR := by
  simp only [closeTest]; repeat' split
  all_goals simp
@[simp] theorem closeTest_governor (d : Nat) (s : State) (drum : Drum) :
    (closeTest d s).governor drum = s.governor drum := by
  cases drum <;> simp [State.governor]
@[simp] theorem closeTest_nSet (d : Nat) (s : State) : (closeTest d s).nSet = s.nSet := by
  simp only [closeTest]; repeat' split
  all_goals simp
@[simp] theorem closeTest_sru (d : Nat) (s : State) : (closeTest d s).sru = s.sru := by
  simp only [closeTest]; repeat' split
  all_goals simp
@[simp] theorem closeTest_pps (d : Nat) (s : State) : (closeTest d s).pps = s.pps := by
  simp only [closeTest]; repeat' split
  all_goals simp
@[simp] theorem closeTest_sbm (d : Nat) (s : State) : (closeTest d s).sbm = s.sbm := by
  simp only [closeTest]; repeat' split
  all_goals simp
@[simp] theorem closeTest_tst (d : Nat) (s : State) : (closeTest d s).tst = s.tst := by
  simp only [closeTest]; repeat' split
  all_goals simp
@[simp] theorem closeTest_ulp (d : Nat) (s : State) : (closeTest d s).ulp = s.ulp := by
  simp only [closeTest]; repeat' split
  all_goals simp
@[simp] theorem closeTest_freeSeq (d : Nat) (s : State) : (closeTest d s).freeSeq = s.freeSeq := by
  simp only [closeTest]; repeat' split
  all_goals simp
@[simp] theorem closeTest_pending (d : Nat) (s : State) : (closeTest d s).pending = s.pending := by
  simp only [closeTest]; repeat' split
  all_goals simp

/-! ### advanceFace -/

@[simp] theorem advanceFace_headTime (d : Nat) (s : State) : (advanceFace d s).headTime = s.headTime := by
  simp [advanceFace]
@[simp] theorem advanceFace_governorL (d : Nat) (s : State) : (advanceFace d s).governorL = s.governorL := by
  simp [advanceFace]
@[simp] theorem advanceFace_governorR (d : Nat) (s : State) : (advanceFace d s).governorR = s.governorR := by
  simp [advanceFace]
@[simp] theorem advanceFace_governor (d : Nat) (s : State) (drum : Drum) :
    (advanceFace d s).governor drum = s.governor drum := by
  cases drum <;> simp [State.governor]
@[simp] theorem advanceFace_nSet (d : Nat) (s : State) : (advanceFace d s).nSet = s.nSet := by
  simp [advanceFace]
@[simp] theorem advanceFace_pps (d : Nat) (s : State) : (advanceFace d s).pps = s.pps := by
  simp [advanceFace]
@[simp] theorem advanceFace_sbm (d : Nat) (s : State) : (advanceFace d s).sbm = s.sbm := by
  simp [advanceFace]
@[simp] theorem advanceFace_tst (d : Nat) (s : State) : (advanceFace d s).tst = s.tst := by
  simp [advanceFace]
@[simp] theorem advanceFace_freeSeq (d : Nat) (s : State) : (advanceFace d s).freeSeq = s.freeSeq := by
  simp [advanceFace]
@[simp] theorem advanceFace_pending (d : Nat) (s : State) : (advanceFace d s).pending = s.pending := by
  simp [advanceFace]

/-! ### acceptDepth -/

@[simp] theorem acceptDepth_headTime (d : Nat) (s : State) : (acceptDepth d s).headTime = s.headTime := by
  simp only [acceptDepth]; repeat' split <;> simp
@[simp] theorem acceptDepth_governorL (d : Nat) (s : State) : (acceptDepth d s).governorL = s.governorL := by
  simp only [acceptDepth]; repeat' split <;> simp
@[simp] theorem acceptDepth_governorR (d : Nat) (s : State) : (acceptDepth d s).governorR = s.governorR := by
  simp only [acceptDepth]; repeat' split <;> simp
@[simp] theorem acceptDepth_governor (d : Nat) (s : State) (drum : Drum) :
    (acceptDepth d s).governor drum = s.governor drum := by
  cases drum <;> simp [State.governor]
@[simp] theorem acceptDepth_nSet (d : Nat) (s : State) : (acceptDepth d s).nSet = s.nSet := by
  simp only [acceptDepth]; repeat' split <;> simp
@[simp] theorem acceptDepth_pps (d : Nat) (s : State) : (acceptDepth d s).pps = s.pps := by
  simp only [acceptDepth]; repeat' split <;> simp
@[simp] theorem acceptDepth_sbm (d : Nat) (s : State) : (acceptDepth d s).sbm = s.sbm := by
  simp only [acceptDepth]; repeat' split <;> simp
@[simp] theorem acceptDepth_tst (d : Nat) (s : State) : (acceptDepth d s).tst = s.tst := by
  simp only [acceptDepth]; repeat' split <;> simp
@[simp] theorem acceptDepth_freeSeq (d : Nat) (s : State) : (acceptDepth d s).freeSeq = s.freeSeq := by
  simp only [acceptDepth]; repeat' split <;> simp
@[simp] theorem acceptDepth_pending (d : Nat) (s : State) : (acceptDepth d s).pending = s.pending := by
  simp only [acceptDepth]; repeat' split <;> simp

/-! ### takeDepth -/

@[simp] theorem takeDepth_headTime (d : Nat) (s : State) : (takeDepth d s).headTime = s.headTime := by
  simp [takeDepth]; split <;> simp
@[simp] theorem takeDepth_governorL (d : Nat) (s : State) : (takeDepth d s).governorL = s.governorL := by
  simp [takeDepth]; split <;> simp
@[simp] theorem takeDepth_governorR (d : Nat) (s : State) : (takeDepth d s).governorR = s.governorR := by
  simp [takeDepth]; split <;> simp
@[simp] theorem takeDepth_governor (d : Nat) (s : State) (drum : Drum) :
    (takeDepth d s).governor drum = s.governor drum := by
  cases drum <;> simp [State.governor]
@[simp] theorem takeDepth_nSet (d : Nat) (s : State) : (takeDepth d s).nSet = s.nSet := by
  simp [takeDepth]; split <;> simp
@[simp] theorem takeDepth_pps (d : Nat) (s : State) : (takeDepth d s).pps = s.pps := by
  simp [takeDepth]; split <;> simp
@[simp] theorem takeDepth_sbm (d : Nat) (s : State) : (takeDepth d s).sbm = s.sbm := by
  simp [takeDepth]; split <;> simp
@[simp] theorem takeDepth_tst (d : Nat) (s : State) : (takeDepth d s).tst = s.tst := by
  simp [takeDepth]; split <;> simp
@[simp] theorem takeDepth_freeSeq (d : Nat) (s : State) : (takeDepth d s).freeSeq = s.freeSeq := by
  simp [takeDepth]; split <;> simp
@[simp] theorem takeDepth_pending (d : Nat) (s : State) : (takeDepth d s).pending = s.pending := by
  simp [takeDepth]; split <;> simp

/-! ### inclSample -/

@[simp] theorem inclSample_headTime (k : Sensor) (x : InclSample) (s : State) :
    (inclSample k x s).headTime = s.headTime := by
  simp [inclSample]
@[simp] theorem inclSample_governorL (k : Sensor) (x : InclSample) (s : State) :
    (inclSample k x s).governorL = s.governorL := by
  simp [inclSample]
@[simp] theorem inclSample_governorR (k : Sensor) (x : InclSample) (s : State) :
    (inclSample k x s).governorR = s.governorR := by
  simp [inclSample]
@[simp] theorem inclSample_governor (k : Sensor) (x : InclSample) (s : State) (drum : Drum) :
    (inclSample k x s).governor drum = s.governor drum := by
  cases drum <;> simp [State.governor]
@[simp] theorem inclSample_nSet (k : Sensor) (x : InclSample) (s : State) : (inclSample k x s).nSet = s.nSet := by
  simp [inclSample]
@[simp] theorem inclSample_sru (k : Sensor) (x : InclSample) (s : State) : (inclSample k x s).sru = s.sru := by
  simp [inclSample]
@[simp] theorem inclSample_sbm (k : Sensor) (x : InclSample) (s : State) : (inclSample k x s).sbm = s.sbm := by
  simp [inclSample]
@[simp] theorem inclSample_tst (k : Sensor) (x : InclSample) (s : State) : (inclSample k x s).tst = s.tst := by
  simp [inclSample]
@[simp] theorem inclSample_ulp (k : Sensor) (x : InclSample) (s : State) : (inclSample k x s).ulp = s.ulp := by
  simp [inclSample]
@[simp] theorem inclSample_rpu (k : Sensor) (x : InclSample) (s : State) : (inclSample k x s).rpu = s.rpu := by
  simp [inclSample]
@[simp] theorem inclSample_freeSeq (k : Sensor) (x : InclSample) (s : State) :
    (inclSample k x s).freeSeq = s.freeSeq := by
  simp [inclSample]
@[simp] theorem inclSample_pending (k : Sensor) (x : InclSample) (s : State) :
    (inclSample k x s).pending = s.pending := by
  simp [inclSample]

/-! ### startPanel -/

@[simp] theorem startPanel_headTime (d : Nat) (a b : Int) (s : State) :
    (startPanel d a b s).headTime = s.headTime := by
  simp [startPanel]
@[simp] theorem startPanel_governorL (d : Nat) (a b : Int) (s : State) :
    (startPanel d a b s).governorL = s.governorL := by
  simp [startPanel]
@[simp] theorem startPanel_governorR (d : Nat) (a b : Int) (s : State) :
    (startPanel d a b s).governorR = s.governorR := by
  simp [startPanel]
@[simp] theorem startPanel_governor (d : Nat) (a b : Int) (s : State) (drum : Drum) :
    (startPanel d a b s).governor drum = s.governor drum := by
  cases drum <;> simp [State.governor]
@[simp] theorem startPanel_nSet (d : Nat) (a b : Int) (s : State) : (startPanel d a b s).nSet = s.nSet := by
  simp [startPanel]
@[simp] theorem startPanel_sru (d : Nat) (a b : Int) (s : State) : (startPanel d a b s).sru = s.sru := by
  simp [startPanel]
@[simp] theorem startPanel_sbm (d : Nat) (a b : Int) (s : State) : (startPanel d a b s).sbm = s.sbm := by
  simp [startPanel]
@[simp] theorem startPanel_tst (d : Nat) (a b : Int) (s : State) : (startPanel d a b s).tst = s.tst := by
  simp [startPanel]
@[simp] theorem startPanel_ulp (d : Nat) (a b : Int) (s : State) : (startPanel d a b s).ulp = s.ulp := by
  simp [startPanel]
@[simp] theorem startPanel_freeSeq (d : Nat) (a b : Int) (s : State) : (startPanel d a b s).freeSeq = s.freeSeq := by
  simp [startPanel]
@[simp] theorem startPanel_pending (d : Nat) (a b : Int) (s : State) : (startPanel d a b s).pending = s.pending := by
  simp [startPanel]

end Sys2Proof.Machine
end

