-- ==== Sys2Proof/Laws/FrameBus.lean ====
section
/-! SUPPORT. The frames of the operations of Machine/Bus.lean: each field of State an operation leaves as it was. -/

namespace Sys2Proof.Machine

/-! ### flapSample -/

@[simp] theorem flapSample_headTime (q : Quad Nat) (s : State) : (flapSample q s).headTime = s.headTime := by
  simp [flapSample]
@[simp] theorem flapSample_vtr (q : Quad Nat) (s : State) : (flapSample q s).vtr = s.vtr := by
  simp [flapSample]
@[simp] theorem flapSample_spl (q : Quad Nat) (s : State) : (flapSample q s).spl = s.spl := by
  simp [flapSample]
@[simp] theorem flapSample_governorL (q : Quad Nat) (s : State) : (flapSample q s).governorL = s.governorL := by
  simp [flapSample]
@[simp] theorem flapSample_governorR (q : Quad Nat) (s : State) : (flapSample q s).governorR = s.governorR := by
  simp [flapSample]
@[simp] theorem flapSample_governor (q : Quad Nat) (s : State) (drum : Drum) :
    (flapSample q s).governor drum = s.governor drum := by
  cases drum <;> simp [State.governor]
@[simp] theorem flapSample_nSet (q : Quad Nat) (s : State) : (flapSample q s).nSet = s.nSet := by
  simp [flapSample]
@[simp] theorem flapSample_sru (q : Quad Nat) (s : State) : (flapSample q s).sru = s.sru := by
  simp [flapSample]
@[simp] theorem flapSample_sbm (q : Quad Nat) (s : State) : (flapSample q s).sbm = s.sbm := by
  simp [flapSample]
@[simp] theorem flapSample_tst (q : Quad Nat) (s : State) : (flapSample q s).tst = s.tst := by
  simp [flapSample]
@[simp] theorem flapSample_ulp (q : Quad Nat) (s : State) : (flapSample q s).ulp = s.ulp := by
  simp [flapSample]
@[simp] theorem flapSample_rpu (q : Quad Nat) (s : State) : (flapSample q s).rpu = s.rpu := by
  simp [flapSample]
@[simp] theorem flapSample_freeSeq (q : Quad Nat) (s : State) : (flapSample q s).freeSeq = s.freeSeq := by
  simp [flapSample]
@[simp] theorem flapSample_pending (q : Quad Nat) (s : State) : (flapSample q s).pending = s.pending := by
  simp [flapSample]

/-! ### deliverSample -/

@[simp] theorem deliverSample_headTime (k : Role) (p : List Byte) (s : State) :
    (deliverSample k p s).headTime = s.headTime := by
  simp [deliverSample]; split <;> simp
@[simp] theorem deliverSample_nSet (k : Role) (p : List Byte) (s : State) : (deliverSample k p s).nSet = s.nSet := by
  simp [deliverSample]; split <;> simp
@[simp] theorem deliverSample_sbm (k : Role) (p : List Byte) (s : State) : (deliverSample k p s).sbm = s.sbm := by
  simp [deliverSample]; split <;> simp
@[simp] theorem deliverSample_tst (k : Role) (p : List Byte) (s : State) : (deliverSample k p s).tst = s.tst := by
  simp [deliverSample]; split <;> simp
@[simp] theorem deliverSample_freeSeq (k : Role) (p : List Byte) (s : State) :
    (deliverSample k p s).freeSeq = s.freeSeq := by
  simp [deliverSample]; split <;> simp
@[simp] theorem deliverSample_pending (k : Role) (p : List Byte) (s : State) :
    (deliverSample k p s).pending = s.pending := by
  simp [deliverSample]; split <;> simp

/-! ### drumSampleWithNotice -/

@[simp] theorem drumSampleWithNotice_headTime (d : Drum) (x : DrumSample) (s : State) :
    (drumSampleWithNotice d x s).headTime = s.headTime := by
  simp [drumSampleWithNotice]; split <;> simp
@[simp] theorem drumSampleWithNotice_vtr (d : Drum) (x : DrumSample) (s : State) :
    (drumSampleWithNotice d x s).vtr = s.vtr := by
  simp [drumSampleWithNotice]; split <;> simp
@[simp] theorem drumSampleWithNotice_spl (d : Drum) (x : DrumSample) (s : State) :
    (drumSampleWithNotice d x s).spl = s.spl := by
  simp [drumSampleWithNotice]; split <;> simp
@[simp] theorem drumSampleWithNotice_nSet (d : Drum) (x : DrumSample) (s : State) :
    (drumSampleWithNotice d x s).nSet = s.nSet := by
  simp [drumSampleWithNotice]; split <;> simp
@[simp] theorem drumSampleWithNotice_sru (d : Drum) (x : DrumSample) (s : State) :
    (drumSampleWithNotice d x s).sru = s.sru := by
  simp [drumSampleWithNotice]; split <;> simp
@[simp] theorem drumSampleWithNotice_pps (d : Drum) (x : DrumSample) (s : State) :
    (drumSampleWithNotice d x s).pps = s.pps := by
  simp [drumSampleWithNotice]; split <;> simp
@[simp] theorem drumSampleWithNotice_sbm (d : Drum) (x : DrumSample) (s : State) :
    (drumSampleWithNotice d x s).sbm = s.sbm := by
  simp [drumSampleWithNotice]; split <;> simp
@[simp] theorem drumSampleWithNotice_tst (d : Drum) (x : DrumSample) (s : State) :
    (drumSampleWithNotice d x s).tst = s.tst := by
  simp [drumSampleWithNotice]; split <;> simp
@[simp] theorem drumSampleWithNotice_ulp (d : Drum) (x : DrumSample) (s : State) :
    (drumSampleWithNotice d x s).ulp = s.ulp := by
  simp [drumSampleWithNotice]; split <;> simp
@[simp] theorem drumSampleWithNotice_pending (d : Drum) (x : DrumSample) (s : State) :
    (drumSampleWithNotice d x s).pending = s.pending := by
  simp [drumSampleWithNotice]; split <;> simp

/-! ### flapSampleWithNotice -/

@[simp] theorem flapSampleWithNotice_headTime (q : Quad Nat) (s : State) :
    (flapSampleWithNotice q s).headTime = s.headTime := by
  simp [flapSampleWithNotice]
@[simp] theorem flapSampleWithNotice_vtr (q : Quad Nat) (s : State) : (flapSampleWithNotice q s).vtr = s.vtr := by
  simp [flapSampleWithNotice]
@[simp] theorem flapSampleWithNotice_spl (q : Quad Nat) (s : State) : (flapSampleWithNotice q s).spl = s.spl := by
  simp [flapSampleWithNotice]
@[simp] theorem flapSampleWithNotice_governorL (q : Quad Nat) (s : State) :
    (flapSampleWithNotice q s).governorL = s.governorL := by
  simp [flapSampleWithNotice]
@[simp] theorem flapSampleWithNotice_governorR (q : Quad Nat) (s : State) :
    (flapSampleWithNotice q s).governorR = s.governorR := by
  simp [flapSampleWithNotice]
@[simp] theorem flapSampleWithNotice_governor (q : Quad Nat) (s : State) (drum : Drum) :
    (flapSampleWithNotice q s).governor drum = s.governor drum := by
  cases drum <;> simp [State.governor]
@[simp] theorem flapSampleWithNotice_nSet (q : Quad Nat) (s : State) : (flapSampleWithNotice q s).nSet = s.nSet := by
  simp [flapSampleWithNotice]
@[simp] theorem flapSampleWithNotice_sru (q : Quad Nat) (s : State) : (flapSampleWithNotice q s).sru = s.sru := by
  simp [flapSampleWithNotice]
@[simp] theorem flapSampleWithNotice_sbm (q : Quad Nat) (s : State) : (flapSampleWithNotice q s).sbm = s.sbm := by
  simp [flapSampleWithNotice]
@[simp] theorem flapSampleWithNotice_tst (q : Quad Nat) (s : State) : (flapSampleWithNotice q s).tst = s.tst := by
  simp [flapSampleWithNotice]
@[simp] theorem flapSampleWithNotice_ulp (q : Quad Nat) (s : State) : (flapSampleWithNotice q s).ulp = s.ulp := by
  simp [flapSampleWithNotice]
@[simp] theorem flapSampleWithNotice_rpu (q : Quad Nat) (s : State) : (flapSampleWithNotice q s).rpu = s.rpu := by
  simp [flapSampleWithNotice]
@[simp] theorem flapSampleWithNotice_pending (q : Quad Nat) (s : State) :
    (flapSampleWithNotice q s).pending = s.pending := by
  simp [flapSampleWithNotice]

/-! ### deliverWithNotice -/

@[simp] theorem deliverWithNotice_headTime (k : Role) (p : List Byte) (s : State) :
    (deliverWithNotice k p s).headTime = s.headTime := by
  simp [deliverWithNotice]; split <;> simp
@[simp] theorem deliverWithNotice_nSet (k : Role) (p : List Byte) (s : State) :
    (deliverWithNotice k p s).nSet = s.nSet := by
  simp [deliverWithNotice]; split <;> simp
@[simp] theorem deliverWithNotice_sbm (k : Role) (p : List Byte) (s : State) :
    (deliverWithNotice k p s).sbm = s.sbm := by
  simp [deliverWithNotice]; split <;> simp
@[simp] theorem deliverWithNotice_tst (k : Role) (p : List Byte) (s : State) :
    (deliverWithNotice k p s).tst = s.tst := by
  simp [deliverWithNotice]; split <;> simp
@[simp] theorem deliverWithNotice_pending (k : Role) (p : List Byte) (s : State) :
    (deliverWithNotice k p s).pending = s.pending := by
  simp [deliverWithNotice]; split <;> simp

/-! ### lostNotice -/

@[simp] theorem lostNotice_headTime (k : Role) (s : State) : (lostNotice k s).headTime = s.headTime := by
  simp [lostNotice]; split <;> simp
@[simp] theorem lostNotice_vtr (k : Role) (s : State) : (lostNotice k s).vtr = s.vtr := by
  simp [lostNotice]; split <;> simp
@[simp] theorem lostNotice_spl (k : Role) (s : State) : (lostNotice k s).spl = s.spl := by
  simp [lostNotice]; split <;> simp
@[simp] theorem lostNotice_nSet (k : Role) (s : State) : (lostNotice k s).nSet = s.nSet := by
  simp [lostNotice]; split <;> simp
@[simp] theorem lostNotice_sbm (k : Role) (s : State) : (lostNotice k s).sbm = s.sbm := by
  simp [lostNotice]; split <;> simp
@[simp] theorem lostNotice_tst (k : Role) (s : State) : (lostNotice k s).tst = s.tst := by
  simp [lostNotice]; split <;> simp
@[simp] theorem lostNotice_ulp (k : Role) (s : State) : (lostNotice k s).ulp = s.ulp := by
  simp [lostNotice]; split <;> simp
@[simp] theorem lostNotice_rpu (k : Role) (s : State) : (lostNotice k s).rpu = s.rpu := by
  simp [lostNotice]; split <;> simp
@[simp] theorem lostNotice_freeSeq (k : Role) (s : State) : (lostNotice k s).freeSeq = s.freeSeq := by
  simp [lostNotice]; split <;> simp
@[simp] theorem lostNotice_pending (k : Role) (s : State) : (lostNotice k s).pending = s.pending := by
  simp [lostNotice]; split <;> simp

/-! ### onSlot -/

@[simp] theorem onSlot_headTime (n : Nat) (f : Slot → Slot) (s : State) : (onSlot n f s).headTime = s.headTime := by
  simp [onSlot]
@[simp] theorem onSlot_vtr (n : Nat) (f : Slot → Slot) (s : State) : (onSlot n f s).vtr = s.vtr := by
  simp [onSlot]
@[simp] theorem onSlot_spl (n : Nat) (f : Slot → Slot) (s : State) : (onSlot n f s).spl = s.spl := by
  simp [onSlot]
@[simp] theorem onSlot_governorL (n : Nat) (f : Slot → Slot) (s : State) :
    (onSlot n f s).governorL = s.governorL := by
  simp [onSlot]
@[simp] theorem onSlot_governorR (n : Nat) (f : Slot → Slot) (s : State) :
    (onSlot n f s).governorR = s.governorR := by
  simp [onSlot]
@[simp] theorem onSlot_governor (n : Nat) (f : Slot → Slot) (s : State) (drum : Drum) :
    (onSlot n f s).governor drum = s.governor drum := by
  cases drum <;> simp [State.governor]
@[simp] theorem onSlot_nSet (n : Nat) (f : Slot → Slot) (s : State) : (onSlot n f s).nSet = s.nSet := by
  simp [onSlot]
@[simp] theorem onSlot_sru (n : Nat) (f : Slot → Slot) (s : State) : (onSlot n f s).sru = s.sru := by
  simp [onSlot]
@[simp] theorem onSlot_pps (n : Nat) (f : Slot → Slot) (s : State) : (onSlot n f s).pps = s.pps := by
  simp [onSlot]
@[simp] theorem onSlot_tst (n : Nat) (f : Slot → Slot) (s : State) : (onSlot n f s).tst = s.tst := by
  simp [onSlot]
@[simp] theorem onSlot_ulp (n : Nat) (f : Slot → Slot) (s : State) : (onSlot n f s).ulp = s.ulp := by
  simp [onSlot]
@[simp] theorem onSlot_rpu (n : Nat) (f : Slot → Slot) (s : State) : (onSlot n f s).rpu = s.rpu := by
  simp [onSlot]
@[simp] theorem onSlot_freeSeq (n : Nat) (f : Slot → Slot) (s : State) : (onSlot n f s).freeSeq = s.freeSeq := by
  simp [onSlot]
@[simp] theorem onSlot_pending (n : Nat) (f : Slot → Slot) (s : State) : (onSlot n f s).pending = s.pending := by
  simp [onSlot]

/-! ### arbitrate -/

@[simp] theorem arbitrate_headTime (s : State) : (arbitrate s).headTime = s.headTime := by
  simp [arbitrate]; split <;> simp
@[simp] theorem arbitrate_vtr (s : State) : (arbitrate s).vtr = s.vtr := by
  simp [arbitrate]; split <;> simp
@[simp] theorem arbitrate_spl (s : State) : (arbitrate s).spl = s.spl := by
  simp [arbitrate]; split <;> simp
@[simp] theorem arbitrate_governorL (s : State) : (arbitrate s).governorL = s.governorL := by
  simp [arbitrate]; split <;> simp
@[simp] theorem arbitrate_governorR (s : State) : (arbitrate s).governorR = s.governorR := by
  simp [arbitrate]; split <;> simp
@[simp] theorem arbitrate_governor (s : State) (drum : Drum) :
    (arbitrate s).governor drum = s.governor drum := by
  cases drum <;> simp [State.governor]
@[simp] theorem arbitrate_nSet (s : State) : (arbitrate s).nSet = s.nSet := by
  simp [arbitrate]; split <;> simp
@[simp] theorem arbitrate_sru (s : State) : (arbitrate s).sru = s.sru := by
  simp [arbitrate]; split <;> simp
@[simp] theorem arbitrate_pps (s : State) : (arbitrate s).pps = s.pps := by
  simp [arbitrate]; split <;> simp
@[simp] theorem arbitrate_tst (s : State) : (arbitrate s).tst = s.tst := by
  simp [arbitrate]; split <;> simp
@[simp] theorem arbitrate_ulp (s : State) : (arbitrate s).ulp = s.ulp := by
  simp [arbitrate]; split <;> simp
@[simp] theorem arbitrate_rpu (s : State) : (arbitrate s).rpu = s.rpu := by
  simp [arbitrate]; split <;> simp
@[simp] theorem arbitrate_freeSeq (s : State) : (arbitrate s).freeSeq = s.freeSeq := by
  simp [arbitrate]; split <;> simp
@[simp] theorem arbitrate_pending (s : State) : (arbitrate s).pending = s.pending := by
  simp [arbitrate]; split <;> simp

/-! ### slotDueReached -/

@[simp] theorem slotDueReached_headTime (n : Nat) (s : State) : (slotDueReached n s).headTime = s.headTime := by
  simp only [slotDueReached]; repeat' split
  all_goals simp
@[simp] theorem slotDueReached_vtr (n : Nat) (s : State) : (slotDueReached n s).vtr = s.vtr := by
  simp only [slotDueReached]; repeat' split
  all_goals simp
@[simp] theorem slotDueReached_spl (n : Nat) (s : State) : (slotDueReached n s).spl = s.spl := by
  simp only [slotDueReached]; repeat' split
  all_goals simp
@[simp] theorem slotDueReached_governorL (n : Nat) (s : State) : (slotDueReached n s).governorL = s.governorL := by
  simp only [slotDueReached]; repeat' split
  all_goals simp
@[simp] theorem slotDueReached_governorR (n : Nat) (s : State) : (slotDueReached n s).governorR = s.governorR := by
  simp only [slotDueReached]; repeat' split
  all_goals simp
@[simp] theorem slotDueReached_governor (n : Nat) (s : State) (drum : Drum) :
    (slotDueReached n s).governor drum = s.governor drum := by
  cases drum <;> simp [State.governor]
@[simp] theorem slotDueReached_nSet (n : Nat) (s : State) : (slotDueReached n s).nSet = s.nSet := by
  simp only [slotDueReached]; repeat' split
  all_goals simp
@[simp] theorem slotDueReached_sru (n : Nat) (s : State) : (slotDueReached n s).sru = s.sru := by
  simp only [slotDueReached]; repeat' split
  all_goals simp
@[simp] theorem slotDueReached_pps (n : Nat) (s : State) : (slotDueReached n s).pps = s.pps := by
  simp only [slotDueReached]; repeat' split
  all_goals simp
@[simp] theorem slotDueReached_tst (n : Nat) (s : State) : (slotDueReached n s).tst = s.tst := by
  simp only [slotDueReached]; repeat' split
  all_goals simp
@[simp] theorem slotDueReached_ulp (n : Nat) (s : State) : (slotDueReached n s).ulp = s.ulp := by
  simp only [slotDueReached]; repeat' split
  all_goals simp
@[simp] theorem slotDueReached_rpu (n : Nat) (s : State) : (slotDueReached n s).rpu = s.rpu := by
  simp only [slotDueReached]; repeat' split
  all_goals simp
@[simp] theorem slotDueReached_freeSeq (n : Nat) (s : State) : (slotDueReached n s).freeSeq = s.freeSeq := by
  simp only [slotDueReached]; repeat' split
  all_goals simp
@[simp] theorem slotDueReached_pending (n : Nat) (s : State) : (slotDueReached n s).pending = s.pending := by
  simp only [slotDueReached]; repeat' split
  all_goals simp

/-! ### releasePair -/

@[simp] theorem releasePair_headTime (s : State) : (releasePair s).headTime = s.headTime := by
  simp [releasePair]; split <;> simp
@[simp] theorem releasePair_vtr (s : State) : (releasePair s).vtr = s.vtr := by
  simp [releasePair]; split <;> simp
@[simp] theorem releasePair_spl (s : State) : (releasePair s).spl = s.spl := by
  simp [releasePair]; split <;> simp
@[simp] theorem releasePair_governorL (s : State) : (releasePair s).governorL = s.governorL := by
  simp [releasePair]; split <;> simp
@[simp] theorem releasePair_governorR (s : State) : (releasePair s).governorR = s.governorR := by
  simp [releasePair]; split <;> simp
@[simp] theorem releasePair_governor (s : State) (drum : Drum) :
    (releasePair s).governor drum = s.governor drum := by
  cases drum <;> simp [State.governor]
@[simp] theorem releasePair_nSet (s : State) : (releasePair s).nSet = s.nSet := by
  simp [releasePair]; split <;> simp
@[simp] theorem releasePair_sru (s : State) : (releasePair s).sru = s.sru := by
  simp [releasePair]; split <;> simp
@[simp] theorem releasePair_pps (s : State) : (releasePair s).pps = s.pps := by
  simp [releasePair]; split <;> simp
@[simp] theorem releasePair_tst (s : State) : (releasePair s).tst = s.tst := by
  simp [releasePair]; split <;> simp
@[simp] theorem releasePair_ulp (s : State) : (releasePair s).ulp = s.ulp := by
  simp [releasePair]; split <;> simp
@[simp] theorem releasePair_rpu (s : State) : (releasePair s).rpu = s.rpu := by
  simp [releasePair]; split <;> simp
@[simp] theorem releasePair_freeSeq (s : State) : (releasePair s).freeSeq = s.freeSeq := by
  simp [releasePair]; split <;> simp
@[simp] theorem releasePair_pending (s : State) : (releasePair s).pending = s.pending := by
  simp [releasePair]; split <;> simp

/-! ### setDue -/

@[simp] theorem setDue_headTime (n : Nat) (s : State) : (setDue n s).headTime = s.headTime := by
  simp [setDue]; split <;> simp
@[simp] theorem setDue_vtr (n : Nat) (s : State) : (setDue n s).vtr = s.vtr := by
  simp [setDue]; split <;> simp
@[simp] theorem setDue_spl (n : Nat) (s : State) : (setDue n s).spl = s.spl := by
  simp [setDue]; split <;> simp
@[simp] theorem setDue_governorL (n : Nat) (s : State) : (setDue n s).governorL = s.governorL := by
  simp [setDue]; split <;> simp
@[simp] theorem setDue_governorR (n : Nat) (s : State) : (setDue n s).governorR = s.governorR := by
  simp [setDue]; split <;> simp
@[simp] theorem setDue_governor (n : Nat) (s : State) (drum : Drum) :
    (setDue n s).governor drum = s.governor drum := by
  cases drum <;> simp [State.governor]
@[simp] theorem setDue_nSet (n : Nat) (s : State) : (setDue n s).nSet = s.nSet := by
  simp [setDue]; split <;> simp
@[simp] theorem setDue_sru (n : Nat) (s : State) : (setDue n s).sru = s.sru := by
  simp [setDue]; split <;> simp
@[simp] theorem setDue_pps (n : Nat) (s : State) : (setDue n s).pps = s.pps := by
  simp [setDue]; split <;> simp
@[simp] theorem setDue_tst (n : Nat) (s : State) : (setDue n s).tst = s.tst := by
  simp [setDue]; split <;> simp
@[simp] theorem setDue_rpu (n : Nat) (s : State) : (setDue n s).rpu = s.rpu := by
  simp [setDue]; split <;> simp
@[simp] theorem setDue_freeSeq (n : Nat) (s : State) : (setDue n s).freeSeq = s.freeSeq := by
  simp [setDue]; split <;> simp
@[simp] theorem setDue_pending (n : Nat) (s : State) : (setDue n s).pending = s.pending := by
  simp [setDue]; split <;> simp

/-! ### slotGood -/

@[simp] theorem slotGood_headTime (n a : Nat) (s : State) : (slotGood n a s).headTime = s.headTime := by
  simp [slotGood]; split <;> simp
@[simp] theorem slotGood_vtr (n a : Nat) (s : State) : (slotGood n a s).vtr = s.vtr := by
  simp [slotGood]; split <;> simp
@[simp] theorem slotGood_spl (n a : Nat) (s : State) : (slotGood n a s).spl = s.spl := by
  simp [slotGood]; split <;> simp
@[simp] theorem slotGood_governorL (n a : Nat) (s : State) : (slotGood n a s).governorL = s.governorL := by
  simp [slotGood]; split <;> simp
@[simp] theorem slotGood_governorR (n a : Nat) (s : State) : (slotGood n a s).governorR = s.governorR := by
  simp [slotGood]; split <;> simp
@[simp] theorem slotGood_governor (n a : Nat) (s : State) (drum : Drum) :
    (slotGood n a s).governor drum = s.governor drum := by
  cases drum <;> simp [State.governor]
@[simp] theorem slotGood_nSet (n a : Nat) (s : State) : (slotGood n a s).nSet = s.nSet := by
  simp [slotGood]; split <;> simp
@[simp] theorem slotGood_sru (n a : Nat) (s : State) : (slotGood n a s).sru = s.sru := by
  simp [slotGood]; split <;> simp
@[simp] theorem slotGood_pps (n a : Nat) (s : State) : (slotGood n a s).pps = s.pps := by
  simp [slotGood]; split <;> simp
@[simp] theorem slotGood_tst (n a : Nat) (s : State) : (slotGood n a s).tst = s.tst := by
  simp [slotGood]; split <;> simp
@[simp] theorem slotGood_ulp (n a : Nat) (s : State) : (slotGood n a s).ulp = s.ulp := by
  simp [slotGood]; split <;> simp
@[simp] theorem slotGood_freeSeq (n a : Nat) (s : State) : (slotGood n a s).freeSeq = s.freeSeq := by
  simp [slotGood]; split <;> simp
@[simp] theorem slotGood_pending (n a : Nat) (s : State) : (slotGood n a s).pending = s.pending := by
  simp [slotGood]; split <;> simp

/-! ### slotBad -/

@[simp] theorem slotBad_headTime (n : Nat) (k : Role) (x : TagSet) (s : State) :
    (slotBad n k x s).headTime = s.headTime := by
  simp only [slotBad]; repeat' split <;> simp
@[simp] theorem slotBad_vtr (n : Nat) (k : Role) (x : TagSet) (s : State) : (slotBad n k x s).vtr = s.vtr := by
  simp only [slotBad]; repeat' split <;> simp
@[simp] theorem slotBad_spl (n : Nat) (k : Role) (x : TagSet) (s : State) : (slotBad n k x s).spl = s.spl := by
  simp only [slotBad]; repeat' split <;> simp
@[simp] theorem slotBad_nSet (n : Nat) (k : Role) (x : TagSet) (s : State) : (slotBad n k x s).nSet = s.nSet := by
  simp only [slotBad]; repeat' split <;> simp
@[simp] theorem slotBad_tst (n : Nat) (k : Role) (x : TagSet) (s : State) : (slotBad n k x s).tst = s.tst := by
  simp only [slotBad]; repeat' split <;> simp
@[simp] theorem slotBad_ulp (n : Nat) (k : Role) (x : TagSet) (s : State) : (slotBad n k x s).ulp = s.ulp := by
  simp only [slotBad]; repeat' split <;> simp
@[simp] theorem slotBad_freeSeq (n : Nat) (k : Role) (x : TagSet) (s : State) :
    (slotBad n k x s).freeSeq = s.freeSeq := by
  simp only [slotBad]; repeat' split <;> simp
@[simp] theorem slotBad_pending (n : Nat) (k : Role) (x : TagSet) (s : State) :
    (slotBad n k x s).pending = s.pending := by
  simp only [slotBad]; repeat' split <;> simp

/-! ### relay -/

@[simp] theorem relay_headTime (n : Nat) (k : Role) (b c : Bool) (x : TagSet) (p : List Byte) (s : State) :
    (relay n k b c x p s).headTime = s.headTime := by
  simp [relay]; split <;> simp
@[simp] theorem relay_vtr (n : Nat) (k : Role) (b c : Bool) (x : TagSet) (p : List Byte) (s : State) :
    (relay n k b c x p s).vtr = s.vtr := by
  simp [relay]; split <;> simp
@[simp] theorem relay_spl (n : Nat) (k : Role) (b c : Bool) (x : TagSet) (p : List Byte) (s : State) :
    (relay n k b c x p s).spl = s.spl := by
  simp [relay]; split <;> simp
@[simp] theorem relay_governorL (n : Nat) (k : Role) (b c : Bool) (x : TagSet) (p : List Byte) (s : State) :
    (relay n k b c x p s).governorL = s.governorL := by
  simp [relay]; split <;> simp
@[simp] theorem relay_governorR (n : Nat) (k : Role) (b c : Bool) (x : TagSet) (p : List Byte) (s : State) :
    (relay n k b c x p s).governorR = s.governorR := by
  simp [relay]; split <;> simp
@[simp] theorem relay_governor (n : Nat) (k : Role) (b c : Bool) (x : TagSet) (p : List Byte) (s : State) (drum : Drum) :
    (relay n k b c x p s).governor drum = s.governor drum := by
  cases drum <;> simp [State.governor]
@[simp] theorem relay_nSet (n : Nat) (k : Role) (b c : Bool) (x : TagSet) (p : List Byte) (s : State) :
    (relay n k b c x p s).nSet = s.nSet := by
  simp [relay]; split <;> simp
@[simp] theorem relay_sru (n : Nat) (k : Role) (b c : Bool) (x : TagSet) (p : List Byte) (s : State) :
    (relay n k b c x p s).sru = s.sru := by
  simp [relay]; split <;> simp
@[simp] theorem relay_pps (n : Nat) (k : Role) (b c : Bool) (x : TagSet) (p : List Byte) (s : State) :
    (relay n k b c x p s).pps = s.pps := by
  simp [relay]; split <;> simp
@[simp] theorem relay_sbm (n : Nat) (k : Role) (b c : Bool) (x : TagSet) (p : List Byte) (s : State) :
    (relay n k b c x p s).sbm = s.sbm := by
  simp [relay]; split <;> simp
@[simp] theorem relay_tst (n : Nat) (k : Role) (b c : Bool) (x : TagSet) (p : List Byte) (s : State) :
    (relay n k b c x p s).tst = s.tst := by
  simp [relay]; split <;> simp
@[simp] theorem relay_rpu (n : Nat) (k : Role) (b c : Bool) (x : TagSet) (p : List Byte) (s : State) :
    (relay n k b c x p s).rpu = s.rpu := by
  simp [relay]; split <;> simp
@[simp] theorem relay_freeSeq (n : Nat) (k : Role) (b c : Bool) (x : TagSet) (p : List Byte) (s : State) :
    (relay n k b c x p s).freeSeq = s.freeSeq := by
  simp [relay]; split <;> simp
@[simp] theorem relay_pending (n : Nat) (k : Role) (b c : Bool) (x : TagSet) (p : List Byte) (s : State) :
    (relay n k b c x p s).pending = s.pending := by
  simp [relay]; split <;> simp

/-! ### endLiveSlot -/

@[simp] theorem endLiveSlot_headTime (n a : Nat) (k : Role) (x : TagSet) (p : List Byte) (s : State) :
    (endLiveSlot n a k x p s).headTime = s.headTime := by
  simp only [endLiveSlot]; repeat' split <;> simp
@[simp] theorem endLiveSlot_nSet (n a : Nat) (k : Role) (x : TagSet) (p : List Byte) (s : State) :
    (endLiveSlot n a k x p s).nSet = s.nSet := by
  simp only [endLiveSlot]; repeat' split <;> simp
@[simp] theorem endLiveSlot_tst (n a : Nat) (k : Role) (x : TagSet) (p : List Byte) (s : State) :
    (endLiveSlot n a k x p s).tst = s.tst := by
  simp only [endLiveSlot]; repeat' split <;> simp
@[simp] theorem endLiveSlot_pending (n a : Nat) (k : Role) (x : TagSet) (p : List Byte) (s : State) :
    (endLiveSlot n a k x p s).pending = s.pending := by
  simp only [endLiveSlot]; repeat' split <;> simp

/-! ### endSlot -/

@[simp] theorem endSlot_headTime (n a : Nat) (k : Role) (b c o : Bool) (x : TagSet) (p : List Byte) (s : State) :
    (endSlot n a k b c o x p s).headTime = s.headTime := by
  simp only [endSlot]; repeat' split <;> simp
@[simp] theorem endSlot_nSet (n a : Nat) (k : Role) (b c o : Bool) (x : TagSet) (p : List Byte) (s : State) :
    (endSlot n a k b c o x p s).nSet = s.nSet := by
  simp only [endSlot]; repeat' split <;> simp
@[simp] theorem endSlot_tst (n a : Nat) (k : Role) (b c o : Bool) (x : TagSet) (p : List Byte) (s : State) :
    (endSlot n a k b c o x p s).tst = s.tst := by
  simp only [endSlot]; repeat' split <;> simp
@[simp] theorem endSlot_pending (n a : Nat) (k : Role) (b c o : Bool) (x : TagSet) (p : List Byte) (s : State) :
    (endSlot n a k b c o x p s).pending = s.pending := by
  simp only [endSlot]; repeat' split <;> simp

/-! ### endAccess -/

@[simp] theorem endAccess_headTime (a : Access) (x : TagSet) (p : List Byte) (s : State) :
    (endAccess a x p s).headTime = s.headTime := by
  simp [endAccess]
@[simp] theorem endAccess_vtr (a : Access) (x : TagSet) (p : List Byte) (s : State) :
    (endAccess a x p s).vtr = s.vtr := by
  simp [endAccess]
@[simp] theorem endAccess_spl (a : Access) (x : TagSet) (p : List Byte) (s : State) :
    (endAccess a x p s).spl = s.spl := by
  simp [endAccess]
@[simp] theorem endAccess_governorL (a : Access) (x : TagSet) (p : List Byte) (s : State) :
    (endAccess a x p s).governorL = s.governorL := by
  simp [endAccess]
@[simp] theorem endAccess_governorR (a : Access) (x : TagSet) (p : List Byte) (s : State) :
    (endAccess a x p s).governorR = s.governorR := by
  simp [endAccess]
@[simp] theorem endAccess_governor (a : Access) (x : TagSet) (p : List Byte) (s : State) (drum : Drum) :
    (endAccess a x p s).governor drum = s.governor drum := by
  cases drum <;> simp [State.governor]
@[simp] theorem endAccess_nSet (a : Access) (x : TagSet) (p : List Byte) (s : State) :
    (endAccess a x p s).nSet = s.nSet := by
  simp [endAccess]
@[simp] theorem endAccess_sru (a : Access) (x : TagSet) (p : List Byte) (s : State) :
    (endAccess a x p s).sru = s.sru := by
  simp [endAccess]
@[simp] theorem endAccess_pps (a : Access) (x : TagSet) (p : List Byte) (s : State) :
    (endAccess a x p s).pps = s.pps := by
  simp [endAccess]
@[simp] theorem endAccess_tst (a : Access) (x : TagSet) (p : List Byte) (s : State) :
    (endAccess a x p s).tst = s.tst := by
  simp [endAccess]
@[simp] theorem endAccess_rpu (a : Access) (x : TagSet) (p : List Byte) (s : State) :
    (endAccess a x p s).rpu = s.rpu := by
  simp [endAccess]
@[simp] theorem endAccess_freeSeq (a : Access) (x : TagSet) (p : List Byte) (s : State) :
    (endAccess a x p s).freeSeq = s.freeSeq := by
  simp [endAccess]
@[simp] theorem endAccess_pending (a : Access) (x : TagSet) (p : List Byte) (s : State) :
    (endAccess a x p s).pending = s.pending := by
  simp [endAccess]

/-! ### endTransaction -/

@[simp] theorem endTransaction_headTime (tx : Transaction) (x : TagSet) (p : List Byte) (s : State) :
    (endTransaction tx x p s).headTime = s.headTime := by
  simp [endTransaction]; split <;> simp
@[simp] theorem endTransaction_nSet (tx : Transaction) (x : TagSet) (p : List Byte) (s : State) :
    (endTransaction tx x p s).nSet = s.nSet := by
  simp [endTransaction]; split <;> simp
@[simp] theorem endTransaction_tst (tx : Transaction) (x : TagSet) (p : List Byte) (s : State) :
    (endTransaction tx x p s).tst = s.tst := by
  simp [endTransaction]; split <;> simp
@[simp] theorem endTransaction_pending (tx : Transaction) (x : TagSet) (p : List Byte) (s : State) :
    (endTransaction tx x p s).pending = s.pending := by
  simp [endTransaction]; split <;> simp

/-! ### receiveResponse -/

@[simp] theorem receiveResponse_headTime (cs : List BusChar) (s : State) :
    (receiveResponse cs s).headTime = s.headTime := by
  simp only [receiveResponse]; repeat' split
  all_goals simp
@[simp] theorem receiveResponse_nSet (cs : List BusChar) (s : State) : (receiveResponse cs s).nSet = s.nSet := by
  simp only [receiveResponse]; repeat' split
  all_goals simp
@[simp] theorem receiveResponse_tst (cs : List BusChar) (s : State) : (receiveResponse cs s).tst = s.tst := by
  simp only [receiveResponse]; repeat' split
  all_goals simp
@[simp] theorem receiveResponse_pending (cs : List BusChar) (s : State) :
    (receiveResponse cs s).pending = s.pending := by
  simp only [receiveResponse]; repeat' split
  all_goals simp

/-! ### responseExpiry -/

@[simp] theorem responseExpiry_headTime (s : State) : (responseExpiry s).headTime = s.headTime := by
  simp only [responseExpiry]; repeat' split
  all_goals simp
@[simp] theorem responseExpiry_nSet (s : State) : (responseExpiry s).nSet = s.nSet := by
  simp only [responseExpiry]; repeat' split
  all_goals simp
@[simp] theorem responseExpiry_tst (s : State) : (responseExpiry s).tst = s.tst := by
  simp only [responseExpiry]; repeat' split
  all_goals simp
@[simp] theorem responseExpiry_pending (s : State) : (responseExpiry s).pending = s.pending := by
  simp only [responseExpiry]; repeat' split
  all_goals simp

/-! ### quietExpiry -/

@[simp] theorem quietExpiry_headTime (s : State) : (quietExpiry s).headTime = s.headTime := by
  simp only [quietExpiry]; repeat' split
  all_goals simp
@[simp] theorem quietExpiry_vtr (s : State) : (quietExpiry s).vtr = s.vtr := by
  simp only [quietExpiry]; repeat' split
  all_goals simp
@[simp] theorem quietExpiry_spl (s : State) : (quietExpiry s).spl = s.spl := by
  simp only [quietExpiry]; repeat' split
  all_goals simp
@[simp] theorem quietExpiry_governorL (s : State) : (quietExpiry s).governorL = s.governorL := by
  simp only [quietExpiry]; repeat' split
  all_goals simp
@[simp] theorem quietExpiry_governorR (s : State) : (quietExpiry s).governorR = s.governorR := by
  simp only [quietExpiry]; repeat' split
  all_goals simp
@[simp] theorem quietExpiry_governor (s : State) (drum : Drum) :
    (quietExpiry s).governor drum = s.governor drum := by
  cases drum <;> simp [State.governor]
@[simp] theorem quietExpiry_nSet (s : State) : (quietExpiry s).nSet = s.nSet := by
  simp only [quietExpiry]; repeat' split
  all_goals simp
@[simp] theorem quietExpiry_sru (s : State) : (quietExpiry s).sru = s.sru := by
  simp only [quietExpiry]; repeat' split
  all_goals simp
@[simp] theorem quietExpiry_pps (s : State) : (quietExpiry s).pps = s.pps := by
  simp only [quietExpiry]; repeat' split
  all_goals simp
@[simp] theorem quietExpiry_tst (s : State) : (quietExpiry s).tst = s.tst := by
  simp only [quietExpiry]; repeat' split
  all_goals simp
@[simp] theorem quietExpiry_ulp (s : State) : (quietExpiry s).ulp = s.ulp := by
  simp only [quietExpiry]; repeat' split
  all_goals simp
@[simp] theorem quietExpiry_rpu (s : State) : (quietExpiry s).rpu = s.rpu := by
  simp only [quietExpiry]; repeat' split
  all_goals simp
@[simp] theorem quietExpiry_freeSeq (s : State) : (quietExpiry s).freeSeq = s.freeSeq := by
  simp only [quietExpiry]; repeat' split
  all_goals simp
@[simp] theorem quietExpiry_pending (s : State) : (quietExpiry s).pending = s.pending := by
  simp only [quietExpiry]; repeat' split
  all_goals simp

/-! ### absentNotice -/

@[simp] theorem absentNotice_headTime (k : Role) (s : State) : (absentNotice k s).headTime = s.headTime := by
  simp [absentNotice]; split <;> simp
@[simp] theorem absentNotice_vtr (k : Role) (s : State) : (absentNotice k s).vtr = s.vtr := by
  simp [absentNotice]; split <;> simp
@[simp] theorem absentNotice_spl (k : Role) (s : State) : (absentNotice k s).spl = s.spl := by
  simp [absentNotice]; split <;> simp
@[simp] theorem absentNotice_nSet (k : Role) (s : State) : (absentNotice k s).nSet = s.nSet := by
  simp [absentNotice]; split <;> simp
@[simp] theorem absentNotice_sbm (k : Role) (s : State) : (absentNotice k s).sbm = s.sbm := by
  simp [absentNotice]; split <;> simp
@[simp] theorem absentNotice_tst (k : Role) (s : State) : (absentNotice k s).tst = s.tst := by
  simp [absentNotice]; split <;> simp
@[simp] theorem absentNotice_ulp (k : Role) (s : State) : (absentNotice k s).ulp = s.ulp := by
  simp [absentNotice]; split <;> simp
@[simp] theorem absentNotice_rpu (k : Role) (s : State) : (absentNotice k s).rpu = s.rpu := by
  simp [absentNotice]; split <;> simp
@[simp] theorem absentNotice_freeSeq (k : Role) (s : State) : (absentNotice k s).freeSeq = s.freeSeq := by
  simp [absentNotice]; split <;> simp
@[simp] theorem absentNotice_pending (k : Role) (s : State) : (absentNotice k s).pending = s.pending := by
  simp [absentNotice]; split <;> simp

/-! ### absentNotices -/

@[simp] theorem absentNotices_headTime (s : State) : (absentNotices s).headTime = s.headTime := by
  simp [absentNotices]
@[simp] theorem absentNotices_vtr (s : State) : (absentNotices s).vtr = s.vtr := by
  simp [absentNotices]
@[simp] theorem absentNotices_spl (s : State) : (absentNotices s).spl = s.spl := by
  simp [absentNotices]
@[simp] theorem absentNotices_nSet (s : State) : (absentNotices s).nSet = s.nSet := by
  simp [absentNotices]
@[simp] theorem absentNotices_sbm (s : State) : (absentNotices s).sbm = s.sbm := by
  simp [absentNotices]
@[simp] theorem absentNotices_tst (s : State) : (absentNotices s).tst = s.tst := by
  simp [absentNotices]
@[simp] theorem absentNotices_ulp (s : State) : (absentNotices s).ulp = s.ulp := by
  simp [absentNotices]
@[simp] theorem absentNotices_rpu (s : State) : (absentNotices s).rpu = s.rpu := by
  simp [absentNotices]
@[simp] theorem absentNotices_freeSeq (s : State) : (absentNotices s).freeSeq = s.freeSeq := by
  simp [absentNotices]
@[simp] theorem absentNotices_pending (s : State) : (absentNotices s).pending = s.pending := by
  simp [absentNotices]

/-! ### pollActivated -/

@[simp] theorem pollActivated_headTime (s : State) : (pollActivated s).headTime = s.headTime := by
  simp [pollActivated]
@[simp] theorem pollActivated_vtr (s : State) : (pollActivated s).vtr = s.vtr := by
  simp [pollActivated]
@[simp] theorem pollActivated_spl (s : State) : (pollActivated s).spl = s.spl := by
  simp [pollActivated]
@[simp] theorem pollActivated_nSet (s : State) : (pollActivated s).nSet = s.nSet := by
  simp [pollActivated]
@[simp] theorem pollActivated_tst (s : State) : (pollActivated s).tst = s.tst := by
  simp [pollActivated]
@[simp] theorem pollActivated_ulp (s : State) : (pollActivated s).ulp = s.ulp := by
  simp [pollActivated]
@[simp] theorem pollActivated_rpu (s : State) : (pollActivated s).rpu = s.rpu := by
  simp [pollActivated]
@[simp] theorem pollActivated_freeSeq (s : State) : (pollActivated s).freeSeq = s.freeSeq := by
  simp [pollActivated]
@[simp] theorem pollActivated_pending (s : State) : (pollActivated s).pending = s.pending := by
  simp [pollActivated]

end Sys2Proof.Machine
end

