-- ==== Sys2Proof/Laws/FrameStore.lean ====
section
/-! SUPPORT. The frames of the operations of Machine/Store.lean: each field of State an operation leaves as it was. -/

namespace Sys2Proof.Machine

/-! ### answer -/

@[simp] theorem answer_headTime (k : DownlinkKind) (c : Byte) (x : ResultCode) (p : List Byte) (s : State) :
    (answer k c x p s).headTime = s.headTime := by
  simp [answer]
@[simp] theorem answer_vtr (k : DownlinkKind) (c : Byte) (x : ResultCode) (p : List Byte) (s : State) :
    (answer k c x p s).vtr = s.vtr := by
  simp [answer]
@[simp] theorem answer_spl (k : DownlinkKind) (c : Byte) (x : ResultCode) (p : List Byte) (s : State) :
    (answer k c x p s).spl = s.spl := by
  simp [answer]
@[simp] theorem answer_governorL (k : DownlinkKind) (c : Byte) (x : ResultCode) (p : List Byte) (s : State) :
    (answer k c x p s).governorL = s.governorL := by
  simp [answer]
@[simp] theorem answer_governorR (k : DownlinkKind) (c : Byte) (x : ResultCode) (p : List Byte) (s : State) :
    (answer k c x p s).governorR = s.governorR := by
  simp [answer]
@[simp] theorem answer_governor (k : DownlinkKind) (c : Byte) (x : ResultCode) (p : List Byte) (s : State) (drum : Drum) :
    (answer k c x p s).governor drum = s.governor drum := by
  cases drum <;> simp [State.governor]
@[simp] theorem answer_nSet (k : DownlinkKind) (c : Byte) (x : ResultCode) (p : List Byte) (s : State) :
    (answer k c x p s).nSet = s.nSet := by
  simp [answer]
@[simp] theorem answer_sru (k : DownlinkKind) (c : Byte) (x : ResultCode) (p : List Byte) (s : State) :
    (answer k c x p s).sru = s.sru := by
  simp [answer]
@[simp] theorem answer_pps (k : DownlinkKind) (c : Byte) (x : ResultCode) (p : List Byte) (s : State) :
    (answer k c x p s).pps = s.pps := by
  simp [answer]
@[simp] theorem answer_sbm (k : DownlinkKind) (c : Byte) (x : ResultCode) (p : List Byte) (s : State) :
    (answer k c x p s).sbm = s.sbm := by
  simp [answer]
@[simp] theorem answer_tst (k : DownlinkKind) (c : Byte) (x : ResultCode) (p : List Byte) (s : State) :
    (answer k c x p s).tst = s.tst := by
  simp [answer]
@[simp] theorem answer_rpu (k : DownlinkKind) (c : Byte) (x : ResultCode) (p : List Byte) (s : State) :
    (answer k c x p s).rpu = s.rpu := by
  simp [answer]
@[simp] theorem answer_freeSeq (k : DownlinkKind) (c : Byte) (x : ResultCode) (p : List Byte) (s : State) :
    (answer k c x p s).freeSeq = s.freeSeq := by
  simp [answer]
@[simp] theorem answer_pending (k : DownlinkKind) (c : Byte) (x : ResultCode) (p : List Byte) (s : State) :
    (answer k c x p s).pending = s.pending := by
  simp [answer]

/-! ### openTable -/

@[simp] theorem openTable_headTime (c i : Byte) (s : State) : (openTable c i s).headTime = s.headTime := by
  simp [openTable]; split <;> simp
@[simp] theorem openTable_vtr (c i : Byte) (s : State) : (openTable c i s).vtr = s.vtr := by
  simp [openTable]; split <;> simp
@[simp] theorem openTable_spl (c i : Byte) (s : State) : (openTable c i s).spl = s.spl := by
  simp [openTable]; split <;> simp
@[simp] theorem openTable_governorL (c i : Byte) (s : State) : (openTable c i s).governorL = s.governorL := by
  simp [openTable]; split <;> simp
@[simp] theorem openTable_governorR (c i : Byte) (s : State) : (openTable c i s).governorR = s.governorR := by
  simp [openTable]; split <;> simp
@[simp] theorem openTable_governor (c i : Byte) (s : State) (drum : Drum) :
    (openTable c i s).governor drum = s.governor drum := by
  cases drum <;> simp [State.governor]
@[simp] theorem openTable_nSet (c i : Byte) (s : State) : (openTable c i s).nSet = s.nSet := by
  simp [openTable]; split <;> simp
@[simp] theorem openTable_sru (c i : Byte) (s : State) : (openTable c i s).sru = s.sru := by
  simp [openTable]; split <;> simp
@[simp] theorem openTable_pps (c i : Byte) (s : State) : (openTable c i s).pps = s.pps := by
  simp [openTable]; split <;> simp
@[simp] theorem openTable_sbm (c i : Byte) (s : State) : (openTable c i s).sbm = s.sbm := by
  simp [openTable]; split <;> simp
@[simp] theorem openTable_rpu (c i : Byte) (s : State) : (openTable c i s).rpu = s.rpu := by
  simp [openTable]; split <;> simp
@[simp] theorem openTable_freeSeq (c i : Byte) (s : State) : (openTable c i s).freeSeq = s.freeSeq := by
  simp [openTable]; split <;> simp
@[simp] theorem openTable_pending (c i : Byte) (s : State) : (openTable c i s).pending = s.pending := by
  simp [openTable]; split <;> simp

/-! ### writeTable -/

@[simp] theorem writeTable_headTime (c i w : Byte) (f : List Byte) (s : State) :
    (writeTable c i w f s).headTime = s.headTime := by
  simp only [writeTable]; repeat' split
  all_goals simp
@[simp] theorem writeTable_vtr (c i w : Byte) (f : List Byte) (s : State) : (writeTable c i w f s).vtr = s.vtr := by
  simp only [writeTable]; repeat' split
  all_goals simp
@[simp] theorem writeTable_spl (c i w : Byte) (f : List Byte) (s : State) : (writeTable c i w f s).spl = s.spl := by
  simp only [writeTable]; repeat' split
  all_goals simp
@[simp] theorem writeTable_governorL (c i w : Byte) (f : List Byte) (s : State) :
    (writeTable c i w f s).governorL = s.governorL := by
  simp only [writeTable]; repeat' split
  all_goals simp
@[simp] theorem writeTable_governorR (c i w : Byte) (f : List Byte) (s : State) :
    (writeTable c i w f s).governorR = s.governorR := by
  simp only [writeTable]; repeat' split
  all_goals simp
@[simp] theorem writeTable_governor (c i w : Byte) (f : List Byte) (s : State) (drum : Drum) :
    (writeTable c i w f s).governor drum = s.governor drum := by
  cases drum <;> simp [State.governor]
@[simp] theorem writeTable_nSet (c i w : Byte) (f : List Byte) (s : State) :
    (writeTable c i w f s).nSet = s.nSet := by
  simp only [writeTable]; repeat' split
  all_goals simp
@[simp] theorem writeTable_sru (c i w : Byte) (f : List Byte) (s : State) : (writeTable c i w f s).sru = s.sru := by
  simp only [writeTable]; repeat' split
  all_goals simp
@[simp] theorem writeTable_pps (c i w : Byte) (f : List Byte) (s : State) : (writeTable c i w f s).pps = s.pps := by
  simp only [writeTable]; repeat' split
  all_goals simp
@[simp] theorem writeTable_sbm (c i w : Byte) (f : List Byte) (s : State) : (writeTable c i w f s).sbm = s.sbm := by
  simp only [writeTable]; repeat' split
  all_goals simp
@[simp] theorem writeTable_rpu (c i w : Byte) (f : List Byte) (s : State) : (writeTable c i w f s).rpu = s.rpu := by
  simp only [writeTable]; repeat' split
  all_goals simp
@[simp] theorem writeTable_freeSeq (c i w : Byte) (f : List Byte) (s : State) :
    (writeTable c i w f s).freeSeq = s.freeSeq := by
  simp only [writeTable]; repeat' split
  all_goals simp
@[simp] theorem writeTable_pending (c i w : Byte) (f : List Byte) (s : State) :
    (writeTable c i w f s).pending = s.pending := by
  simp only [writeTable]; repeat' split
  all_goals simp

/-! ### activationEffects -/

@[simp] theorem activationEffects_headTime (i : TableId) (s : State) :
    (activationEffects i s).headTime = s.headTime := by
  simp [activationEffects]; split <;> simp
@[simp] theorem activationEffects_vtr (i : TableId) (s : State) : (activationEffects i s).vtr = s.vtr := by
  simp [activationEffects]; split <;> simp
@[simp] theorem activationEffects_spl (i : TableId) (s : State) : (activationEffects i s).spl = s.spl := by
  simp [activationEffects]; split <;> simp
@[simp] theorem activationEffects_nSet (i : TableId) (s : State) : (activationEffects i s).nSet = s.nSet := by
  simp [activationEffects]; split <;> simp
@[simp] theorem activationEffects_tst (i : TableId) (s : State) : (activationEffects i s).tst = s.tst := by
  simp [activationEffects]; split <;> simp
@[simp] theorem activationEffects_ulp (i : TableId) (s : State) : (activationEffects i s).ulp = s.ulp := by
  simp [activationEffects]; split <;> simp
@[simp] theorem activationEffects_rpu (i : TableId) (s : State) : (activationEffects i s).rpu = s.rpu := by
  simp [activationEffects]; split <;> simp
@[simp] theorem activationEffects_freeSeq (i : TableId) (s : State) :
    (activationEffects i s).freeSeq = s.freeSeq := by
  simp [activationEffects]; split <;> simp
@[simp] theorem activationEffects_pending (i : TableId) (s : State) :
    (activationEffects i s).pending = s.pending := by
  simp [activationEffects]; split <;> simp

/-! ### activateTable -/

@[simp] theorem activateTable_headTime (c i : Byte) (s : State) : (activateTable c i s).headTime = s.headTime := by
  simp only [activateTable]; repeat' split
  all_goals simp
@[simp] theorem activateTable_vtr (c i : Byte) (s : State) : (activateTable c i s).vtr = s.vtr := by
  simp only [activateTable]; repeat' split
  all_goals simp
@[simp] theorem activateTable_spl (c i : Byte) (s : State) : (activateTable c i s).spl = s.spl := by
  simp only [activateTable]; repeat' split
  all_goals simp
@[simp] theorem activateTable_nSet (c i : Byte) (s : State) : (activateTable c i s).nSet = s.nSet := by
  simp only [activateTable]; repeat' split
  all_goals simp
@[simp] theorem activateTable_rpu (c i : Byte) (s : State) : (activateTable c i s).rpu = s.rpu := by
  simp only [activateTable]; repeat' split
  all_goals simp
@[simp] theorem activateTable_freeSeq (c i : Byte) (s : State) : (activateTable c i s).freeSeq = s.freeSeq := by
  simp only [activateTable]; repeat' split
  all_goals simp
@[simp] theorem activateTable_pending (c i : Byte) (s : State) : (activateTable c i s).pending = s.pending := by
  simp only [activateTable]; repeat' split
  all_goals simp

/-! ### readTable -/

@[simp] theorem readTable_headTime (c i b w : Byte) (x : List Byte) (s : State) :
    (readTable c i b w x s).headTime = s.headTime := by
  simp only [readTable]; repeat' split
  all_goals simp
@[simp] theorem readTable_vtr (c i b w : Byte) (x : List Byte) (s : State) : (readTable c i b w x s).vtr = s.vtr := by
  simp only [readTable]; repeat' split
  all_goals simp
@[simp] theorem readTable_spl (c i b w : Byte) (x : List Byte) (s : State) : (readTable c i b w x s).spl = s.spl := by
  simp only [readTable]; repeat' split
  all_goals simp
@[simp] theorem readTable_governorL (c i b w : Byte) (x : List Byte) (s : State) :
    (readTable c i b w x s).governorL = s.governorL := by
  simp only [readTable]; repeat' split
  all_goals simp
@[simp] theorem readTable_governorR (c i b w : Byte) (x : List Byte) (s : State) :
    (readTable c i b w x s).governorR = s.governorR := by
  simp only [readTable]; repeat' split
  all_goals simp
@[simp] theorem readTable_governor (c i b w : Byte) (x : List Byte) (s : State) (drum : Drum) :
    (readTable c i b w x s).governor drum = s.governor drum := by
  cases drum <;> simp [State.governor]
@[simp] theorem readTable_nSet (c i b w : Byte) (x : List Byte) (s : State) :
    (readTable c i b w x s).nSet = s.nSet := by
  simp only [readTable]; repeat' split
  all_goals simp
@[simp] theorem readTable_sru (c i b w : Byte) (x : List Byte) (s : State) : (readTable c i b w x s).sru = s.sru := by
  simp only [readTable]; repeat' split
  all_goals simp
@[simp] theorem readTable_pps (c i b w : Byte) (x : List Byte) (s : State) : (readTable c i b w x s).pps = s.pps := by
  simp only [readTable]; repeat' split
  all_goals simp
@[simp] theorem readTable_sbm (c i b w : Byte) (x : List Byte) (s : State) : (readTable c i b w x s).sbm = s.sbm := by
  simp only [readTable]; repeat' split
  all_goals simp
@[simp] theorem readTable_tst (c i b w : Byte) (x : List Byte) (s : State) : (readTable c i b w x s).tst = s.tst := by
  simp only [readTable]; repeat' split
  all_goals simp
@[simp] theorem readTable_rpu (c i b w : Byte) (x : List Byte) (s : State) : (readTable c i b w x s).rpu = s.rpu := by
  simp only [readTable]; repeat' split
  all_goals simp
@[simp] theorem readTable_freeSeq (c i b w : Byte) (x : List Byte) (s : State) :
    (readTable c i b w x s).freeSeq = s.freeSeq := by
  simp only [readTable]; repeat' split
  all_goals simp
@[simp] theorem readTable_pending (c i b w : Byte) (x : List Byte) (s : State) :
    (readTable c i b w x s).pending = s.pending := by
  simp only [readTable]; repeat' split
  all_goals simp

end Sys2Proof.Machine
end

