-- ==== Sys2Proof/Laws/FrameUplink.lean ====
section
/-! SUPPORT. The frames of the operations of Machine/Uplink.lean: each field of State an operation leaves as it was. -/

namespace Sys2Proof.Machine

/-! ### takeSource -/

@[simp] theorem takeSource_headTime (x : UplinkSource) (s : State) : (takeSource x s).headTime = s.headTime := by
  simp [takeSource]; split <;> simp
@[simp] theorem takeSource_vtr (x : UplinkSource) (s : State) : (takeSource x s).vtr = s.vtr := by
  simp [takeSource]; split <;> simp
@[simp] theorem takeSource_spl (x : UplinkSource) (s : State) : (takeSource x s).spl = s.spl := by
  simp [takeSource]; split <;> simp
@[simp] theorem takeSource_governorL (x : UplinkSource) (s : State) : (takeSource x s).governorL = s.governorL := by
  simp [takeSource]; split <;> simp
@[simp] theorem takeSource_governorR (x : UplinkSource) (s : State) : (takeSource x s).governorR = s.governorR := by
  simp [takeSource]; split <;> simp
@[simp] theorem takeSource_governor (x : UplinkSource) (s : State) (drum : Drum) :
    (takeSource x s).governor drum = s.governor drum := by
  cases drum <;> simp [State.governor]
@[simp] theorem takeSource_nSet (x : UplinkSource) (s : State) : (takeSource x s).nSet = s.nSet := by
  simp [takeSource]; split <;> simp
@[simp] theorem takeSource_sru (x : UplinkSource) (s : State) : (takeSource x s).sru = s.sru := by
  simp [takeSource]; split <;> simp
@[simp] theorem takeSource_pps (x : UplinkSource) (s : State) : (takeSource x s).pps = s.pps := by
  simp [takeSource]; split <;> simp
@[simp] theorem takeSource_sbm (x : UplinkSource) (s : State) : (takeSource x s).sbm = s.sbm := by
  simp [takeSource]; split <;> simp
@[simp] theorem takeSource_tst (x : UplinkSource) (s : State) : (takeSource x s).tst = s.tst := by
  simp [takeSource]; split <;> simp
@[simp] theorem takeSource_freeSeq (x : UplinkSource) (s : State) : (takeSource x s).freeSeq = s.freeSeq := by
  simp [takeSource]; split <;> simp
@[simp] theorem takeSource_pending (x : UplinkSource) (s : State) : (takeSource x s).pending = s.pending := by
  simp [takeSource]; split <;> simp

/-! ### startFrame -/

@[simp] theorem startFrame_headTime (f : TxFrame) (s : State) : (startFrame f s).headTime = s.headTime := by
  simp [startFrame]
@[simp] theorem startFrame_vtr (f : TxFrame) (s : State) : (startFrame f s).vtr = s.vtr := by
  simp [startFrame]
@[simp] theorem startFrame_spl (f : TxFrame) (s : State) : (startFrame f s).spl = s.spl := by
  simp [startFrame]
@[simp] theorem startFrame_governorL (f : TxFrame) (s : State) : (startFrame f s).governorL = s.governorL := by
  simp [startFrame]
@[simp] theorem startFrame_governorR (f : TxFrame) (s : State) : (startFrame f s).governorR = s.governorR := by
  simp [startFrame]
@[simp] theorem startFrame_governor (f : TxFrame) (s : State) (drum : Drum) :
    (startFrame f s).governor drum = s.governor drum := by
  cases drum <;> simp [State.governor]
@[simp] theorem startFrame_nSet (f : TxFrame) (s : State) : (startFrame f s).nSet = s.nSet := by
  simp [startFrame]
@[simp] theorem startFrame_sru (f : TxFrame) (s : State) : (startFrame f s).sru = s.sru := by
  simp [startFrame]
@[simp] theorem startFrame_pps (f : TxFrame) (s : State) : (startFrame f s).pps = s.pps := by
  simp [startFrame]
@[simp] theorem startFrame_sbm (f : TxFrame) (s : State) : (startFrame f s).sbm = s.sbm := by
  simp [startFrame]
@[simp] theorem startFrame_tst (f : TxFrame) (s : State) : (startFrame f s).tst = s.tst := by
  simp [startFrame]
@[simp] theorem startFrame_rpu (f : TxFrame) (s : State) : (startFrame f s).rpu = s.rpu := by
  simp [startFrame]
@[simp] theorem startFrame_freeSeq (f : TxFrame) (s : State) : (startFrame f s).freeSeq = s.freeSeq := by
  simp [startFrame]
@[simp] theorem startFrame_pending (f : TxFrame) (s : State) : (startFrame f s).pending = s.pending := by
  simp [startFrame]

/-! ### serveUplink -/

@[simp] theorem serveUplink_headTime (s : State) : (serveUplink s).headTime = s.headTime := by
  simp only [serveUplink]; repeat' split
  all_goals simp
@[simp] theorem serveUplink_vtr (s : State) : (serveUplink s).vtr = s.vtr := by
  simp only [serveUplink]; repeat' split
  all_goals simp
@[simp] theorem serveUplink_spl (s : State) : (serveUplink s).spl = s.spl := by
  simp only [serveUplink]; repeat' split
  all_goals simp
@[simp] theorem serveUplink_governorL (s : State) : (serveUplink s).governorL = s.governorL := by
  simp only [serveUplink]; repeat' split
  all_goals simp
@[simp] theorem serveUplink_governorR (s : State) : (serveUplink s).governorR = s.governorR := by
  simp only [serveUplink]; repeat' split
  all_goals simp
@[simp] theorem serveUplink_governor (s : State) (drum : Drum) :
    (serveUplink s).governor drum = s.governor drum := by
  cases drum <;> simp [State.governor]
@[simp] theorem serveUplink_nSet (s : State) : (serveUplink s).nSet = s.nSet := by
  simp only [serveUplink]; repeat' split
  all_goals simp
@[simp] theorem serveUplink_sru (s : State) : (serveUplink s).sru = s.sru := by
  simp only [serveUplink]; repeat' split
  all_goals simp
@[simp] theorem serveUplink_pps (s : State) : (serveUplink s).pps = s.pps := by
  simp only [serveUplink]; repeat' split
  all_goals simp
@[simp] theorem serveUplink_sbm (s : State) : (serveUplink s).sbm = s.sbm := by
  simp only [serveUplink]; repeat' split
  all_goals simp
@[simp] theorem serveUplink_tst (s : State) : (serveUplink s).tst = s.tst := by
  simp only [serveUplink]; repeat' split
  all_goals simp
@[simp] theorem serveUplink_freeSeq (s : State) : (serveUplink s).freeSeq = s.freeSeq := by
  simp only [serveUplink]; repeat' split
  all_goals simp
@[simp] theorem serveUplink_pending (s : State) : (serveUplink s).pending = s.pending := by
  simp only [serveUplink]; repeat' split
  all_goals simp

/-! ### frameEnd -/

@[simp] theorem frameEnd_headTime (s : State) : (frameEnd s).headTime = s.headTime := by
  simp only [frameEnd]; repeat' split
  all_goals simp
@[simp] theorem frameEnd_vtr (s : State) : (frameEnd s).vtr = s.vtr := by
  simp only [frameEnd]; repeat' split
  all_goals simp
@[simp] theorem frameEnd_spl (s : State) : (frameEnd s).spl = s.spl := by
  simp only [frameEnd]; repeat' split
  all_goals simp
@[simp] theorem frameEnd_governorL (s : State) : (frameEnd s).governorL = s.governorL := by
  simp only [frameEnd]; repeat' split
  all_goals simp
@[simp] theorem frameEnd_governorR (s : State) : (frameEnd s).governorR = s.governorR := by
  simp only [frameEnd]; repeat' split
  all_goals simp
@[simp] theorem frameEnd_governor (s : State) (drum : Drum) :
    (frameEnd s).governor drum = s.governor drum := by
  cases drum <;> simp [State.governor]
@[simp] theorem frameEnd_nSet (s : State) : (frameEnd s).nSet = s.nSet := by
  simp only [frameEnd]; repeat' split
  all_goals simp
@[simp] theorem frameEnd_sru (s : State) : (frameEnd s).sru = s.sru := by
  simp only [frameEnd]; repeat' split
  all_goals simp
@[simp] theorem frameEnd_pps (s : State) : (frameEnd s).pps = s.pps := by
  simp only [frameEnd]; repeat' split
  all_goals simp
@[simp] theorem frameEnd_sbm (s : State) : (frameEnd s).sbm = s.sbm := by
  simp only [frameEnd]; repeat' split
  all_goals simp
@[simp] theorem frameEnd_tst (s : State) : (frameEnd s).tst = s.tst := by
  simp only [frameEnd]; repeat' split
  all_goals simp
@[simp] theorem frameEnd_rpu (s : State) : (frameEnd s).rpu = s.rpu := by
  simp only [frameEnd]; repeat' split
  all_goals simp
@[simp] theorem frameEnd_freeSeq (s : State) : (frameEnd s).freeSeq = s.freeSeq := by
  simp only [frameEnd]; repeat' split
  all_goals simp
@[simp] theorem frameEnd_pending (s : State) : (frameEnd s).pending = s.pending := by
  simp only [frameEnd]; repeat' split
  all_goals simp

/-! ### syncReplyDone -/

@[simp] theorem syncReplyDone_headTime (s : State) : (syncReplyDone s).headTime = s.headTime := by
  simp [syncReplyDone]; split <;> simp
@[simp] theorem syncReplyDone_vtr (s : State) : (syncReplyDone s).vtr = s.vtr := by
  simp [syncReplyDone]; split <;> simp
@[simp] theorem syncReplyDone_spl (s : State) : (syncReplyDone s).spl = s.spl := by
  simp [syncReplyDone]; split <;> simp
@[simp] theorem syncReplyDone_governorL (s : State) : (syncReplyDone s).governorL = s.governorL := by
  simp [syncReplyDone]; split <;> simp
@[simp] theorem syncReplyDone_governorR (s : State) : (syncReplyDone s).governorR = s.governorR := by
  simp [syncReplyDone]; split <;> simp
@[simp] theorem syncReplyDone_governor (s : State) (drum : Drum) :
    (syncReplyDone s).governor drum = s.governor drum := by
  cases drum <;> simp [State.governor]
@[simp] theorem syncReplyDone_nSet (s : State) : (syncReplyDone s).nSet = s.nSet := by
  simp [syncReplyDone]; split <;> simp
@[simp] theorem syncReplyDone_sru (s : State) : (syncReplyDone s).sru = s.sru := by
  simp [syncReplyDone]; split <;> simp
@[simp] theorem syncReplyDone_pps (s : State) : (syncReplyDone s).pps = s.pps := by
  simp [syncReplyDone]; split <;> simp
@[simp] theorem syncReplyDone_sbm (s : State) : (syncReplyDone s).sbm = s.sbm := by
  simp [syncReplyDone]; split <;> simp
@[simp] theorem syncReplyDone_tst (s : State) : (syncReplyDone s).tst = s.tst := by
  simp [syncReplyDone]; split <;> simp
@[simp] theorem syncReplyDone_rpu (s : State) : (syncReplyDone s).rpu = s.rpu := by
  simp [syncReplyDone]; split <;> simp
@[simp] theorem syncReplyDone_freeSeq (s : State) : (syncReplyDone s).freeSeq = s.freeSeq := by
  simp [syncReplyDone]; split <;> simp
@[simp] theorem syncReplyDone_pending (s : State) : (syncReplyDone s).pending = s.pending := by
  simp [syncReplyDone]; split <;> simp

end Sys2Proof.Machine
end

