-- ==== Sys2Proof/Laws/FrameLink.lean ====
section
/-! SUPPORT. The frames of the operations of Machine/Link.lean: each field of State an operation leaves as it was. -/

namespace Sys2Proof.Machine

/-! ### restartLinkDeadline -/

@[simp] theorem restartLinkDeadline_headTime (s : State) : (restartLinkDeadline s).headTime = s.headTime := by
  simp [restartLinkDeadline]
@[simp] theorem restartLinkDeadline_vtr (s : State) : (restartLinkDeadline s).vtr = s.vtr := by
  simp [restartLinkDeadline]
@[simp] theorem restartLinkDeadline_spl (s : State) : (restartLinkDeadline s).spl = s.spl := by
  simp [restartLinkDeadline]
@[simp] theorem restartLinkDeadline_governorL (s : State) : (restartLinkDeadline s).governorL = s.governorL := by
  simp [restartLinkDeadline]
@[simp] theorem restartLinkDeadline_governorR (s : State) : (restartLinkDeadline s).governorR = s.governorR := by
  simp [restartLinkDeadline]
@[simp] theorem restartLinkDeadline_governor (s : State) (drum : Drum) :
    (restartLinkDeadline s).governor drum = s.governor drum := by
  cases drum <;> simp [State.governor]
@[simp] theorem restartLinkDeadline_nSet (s : State) : (restartLinkDeadline s).nSet = s.nSet := by
  simp [restartLinkDeadline]
@[simp] theorem restartLinkDeadline_sru (s : State) : (restartLinkDeadline s).sru = s.sru := by
  simp [restartLinkDeadline]
@[simp] theorem restartLinkDeadline_pps (s : State) : (restartLinkDeadline s).pps = s.pps := by
  simp [restartLinkDeadline]
@[simp] theorem restartLinkDeadline_sbm (s : State) : (restartLinkDeadline s).sbm = s.sbm := by
  simp [restartLinkDeadline]
@[simp] theorem restartLinkDeadline_tst (s : State) : (restartLinkDeadline s).tst = s.tst := by
  simp [restartLinkDeadline]
@[simp] theorem restartLinkDeadline_rpu (s : State) : (restartLinkDeadline s).rpu = s.rpu := by
  simp [restartLinkDeadline]
@[simp] theorem restartLinkDeadline_freeSeq (s : State) : (restartLinkDeadline s).freeSeq = s.freeSeq := by
  simp [restartLinkDeadline]
@[simp] theorem restartLinkDeadline_pending (s : State) : (restartLinkDeadline s).pending = s.pending := by
  simp [restartLinkDeadline]

/-! ### startStatusDeadline -/

@[simp] theorem startStatusDeadline_headTime (s : State) : (startStatusDeadline s).headTime = s.headTime := by
  simp [startStatusDeadline]
@[simp] theorem startStatusDeadline_vtr (s : State) : (startStatusDeadline s).vtr = s.vtr := by
  simp [startStatusDeadline]
@[simp] theorem startStatusDeadline_spl (s : State) : (startStatusDeadline s).spl = s.spl := by
  simp [startStatusDeadline]
@[simp] theorem startStatusDeadline_governorL (s : State) : (startStatusDeadline s).governorL = s.governorL := by
  simp [startStatusDeadline]
@[simp] theorem startStatusDeadline_governorR (s : State) : (startStatusDeadline s).governorR = s.governorR := by
  simp [startStatusDeadline]
@[simp] theorem startStatusDeadline_governor (s : State) (drum : Drum) :
    (startStatusDeadline s).governor drum = s.governor drum := by
  cases drum <;> simp [State.governor]
@[simp] theorem startStatusDeadline_nSet (s : State) : (startStatusDeadline s).nSet = s.nSet := by
  simp [startStatusDeadline]
@[simp] theorem startStatusDeadline_sru (s : State) : (startStatusDeadline s).sru = s.sru := by
  simp [startStatusDeadline]
@[simp] theorem startStatusDeadline_pps (s : State) : (startStatusDeadline s).pps = s.pps := by
  simp [startStatusDeadline]
@[simp] theorem startStatusDeadline_sbm (s : State) : (startStatusDeadline s).sbm = s.sbm := by
  simp [startStatusDeadline]
@[simp] theorem startStatusDeadline_tst (s : State) : (startStatusDeadline s).tst = s.tst := by
  simp [startStatusDeadline]
@[simp] theorem startStatusDeadline_ulp (s : State) : (startStatusDeadline s).ulp = s.ulp := by
  simp [startStatusDeadline]
@[simp] theorem startStatusDeadline_freeSeq (s : State) : (startStatusDeadline s).freeSeq = s.freeSeq := by
  simp [startStatusDeadline]
@[simp] theorem startStatusDeadline_pending (s : State) : (startStatusDeadline s).pending = s.pending := by
  simp [startStatusDeadline]

/-! ### lockLink -/

@[simp] theorem lockLink_headTime (s : State) : (lockLink s).headTime = s.headTime := by
  simp [lockLink]
@[simp] theorem lockLink_vtr (s : State) : (lockLink s).vtr = s.vtr := by
  simp [lockLink]
@[simp] theorem lockLink_spl (s : State) : (lockLink s).spl = s.spl := by
  simp [lockLink]
@[simp] theorem lockLink_governorL (s : State) : (lockLink s).governorL = s.governorL := by
  simp [lockLink]
@[simp] theorem lockLink_governorR (s : State) : (lockLink s).governorR = s.governorR := by
  simp [lockLink]
@[simp] theorem lockLink_governor (s : State) (drum : Drum) :
    (lockLink s).governor drum = s.governor drum := by
  cases drum <;> simp [State.governor]
@[simp] theorem lockLink_nSet (s : State) : (lockLink s).nSet = s.nSet := by
  simp [lockLink]
@[simp] theorem lockLink_sru (s : State) : (lockLink s).sru = s.sru := by
  simp [lockLink]
@[simp] theorem lockLink_sbm (s : State) : (lockLink s).sbm = s.sbm := by
  simp [lockLink]
@[simp] theorem lockLink_tst (s : State) : (lockLink s).tst = s.tst := by
  simp [lockLink]
@[simp] theorem lockLink_freeSeq (s : State) : (lockLink s).freeSeq = s.freeSeq := by
  simp [lockLink]
@[simp] theorem lockLink_pending (s : State) : (lockLink s).pending = s.pending := by
  simp [lockLink]

/-! ### huntCharacter -/

@[simp] theorem huntCharacter_headTime (c : LinkChar) (s : State) : (huntCharacter c s).headTime = s.headTime := by
  simp only [huntCharacter]; repeat' split <;> simp
@[simp] theorem huntCharacter_vtr (c : LinkChar) (s : State) : (huntCharacter c s).vtr = s.vtr := by
  simp only [huntCharacter]; repeat' split <;> simp
@[simp] theorem huntCharacter_spl (c : LinkChar) (s : State) : (huntCharacter c s).spl = s.spl := by
  simp only [huntCharacter]; repeat' split <;> simp
@[simp] theorem huntCharacter_governorL (c : LinkChar) (s : State) : (huntCharacter c s).governorL = s.governorL := by
  simp only [huntCharacter]; repeat' split <;> simp
@[simp] theorem huntCharacter_governorR (c : LinkChar) (s : State) : (huntCharacter c s).governorR = s.governorR := by
  simp only [huntCharacter]; repeat' split <;> simp
@[simp] theorem huntCharacter_governor (c : LinkChar) (s : State) (drum : Drum) :
    (huntCharacter c s).governor drum = s.governor drum := by
  cases drum <;> simp [State.governor]
@[simp] theorem huntCharacter_nSet (c : LinkChar) (s : State) : (huntCharacter c s).nSet = s.nSet := by
  simp only [huntCharacter]; repeat' split <;> simp
@[simp] theorem huntCharacter_sru (c : LinkChar) (s : State) : (huntCharacter c s).sru = s.sru := by
  simp only [huntCharacter]; repeat' split <;> simp
@[simp] theorem huntCharacter_sbm (c : LinkChar) (s : State) : (huntCharacter c s).sbm = s.sbm := by
  simp only [huntCharacter]; repeat' split <;> simp
@[simp] theorem huntCharacter_tst (c : LinkChar) (s : State) : (huntCharacter c s).tst = s.tst := by
  simp only [huntCharacter]; repeat' split <;> simp
@[simp] theorem huntCharacter_freeSeq (c : LinkChar) (s : State) : (huntCharacter c s).freeSeq = s.freeSeq := by
  simp only [huntCharacter]; repeat' split <;> simp
@[simp] theorem huntCharacter_pending (c : LinkChar) (s : State) : (huntCharacter c s).pending = s.pending := by
  simp only [huntCharacter]; repeat' split <;> simp

/-! ### huntDwellEnds -/

@[simp] theorem huntDwellEnds_headTime (s : State) : (huntDwellEnds s).headTime = s.headTime := by
  simp [huntDwellEnds]; split <;> simp
@[simp] theorem huntDwellEnds_vtr (s : State) : (huntDwellEnds s).vtr = s.vtr := by
  simp [huntDwellEnds]; split <;> simp
@[simp] theorem huntDwellEnds_spl (s : State) : (huntDwellEnds s).spl = s.spl := by
  simp [huntDwellEnds]; split <;> simp
@[simp] theorem huntDwellEnds_governorL (s : State) : (huntDwellEnds s).governorL = s.governorL := by
  simp [huntDwellEnds]; split <;> simp
@[simp] theorem huntDwellEnds_governorR (s : State) : (huntDwellEnds s).governorR = s.governorR := by
  simp [huntDwellEnds]; split <;> simp
@[simp] theorem huntDwellEnds_governor (s : State) (drum : Drum) :
    (huntDwellEnds s).governor drum = s.governor drum := by
  cases drum <;> simp [State.governor]
@[simp] theorem huntDwellEnds_nSet (s : State) : (huntDwellEnds s).nSet = s.nSet := by
  simp [huntDwellEnds]; split <;> simp
@[simp] theorem huntDwellEnds_sru (s : State) : (huntDwellEnds s).sru = s.sru := by
  simp [huntDwellEnds]; split <;> simp
@[simp] theorem huntDwellEnds_pps (s : State) : (huntDwellEnds s).pps = s.pps := by
  simp [huntDwellEnds]; split <;> simp
@[simp] theorem huntDwellEnds_sbm (s : State) : (huntDwellEnds s).sbm = s.sbm := by
  simp [huntDwellEnds]; split <;> simp
@[simp] theorem huntDwellEnds_tst (s : State) : (huntDwellEnds s).tst = s.tst := by
  simp [huntDwellEnds]; split <;> simp
@[simp] theorem huntDwellEnds_rpu (s : State) : (huntDwellEnds s).rpu = s.rpu := by
  simp [huntDwellEnds]; split <;> simp
@[simp] theorem huntDwellEnds_freeSeq (s : State) : (huntDwellEnds s).freeSeq = s.freeSeq := by
  simp [huntDwellEnds]; split <;> simp
@[simp] theorem huntDwellEnds_pending (s : State) : (huntDwellEnds s).pending = s.pending := by
  simp [huntDwellEnds]; split <;> simp

/-! ### linkNotices -/

@[simp] theorem linkNotices_headTime (b : Bool) (s : State) : (linkNotices b s).headTime = s.headTime := by
  simp [linkNotices]
@[simp] theorem linkNotices_nSet (b : Bool) (s : State) : (linkNotices b s).nSet = s.nSet := by
  simp [linkNotices]
@[simp] theorem linkNotices_sru (b : Bool) (s : State) : (linkNotices b s).sru = s.sru := by
  simp [linkNotices]
@[simp] theorem linkNotices_sbm (b : Bool) (s : State) : (linkNotices b s).sbm = s.sbm := by
  simp [linkNotices]
@[simp] theorem linkNotices_tst (b : Bool) (s : State) : (linkNotices b s).tst = s.tst := by
  simp [linkNotices]
@[simp] theorem linkNotices_ulp (b : Bool) (s : State) : (linkNotices b s).ulp = s.ulp := by
  simp [linkNotices]
@[simp] theorem linkNotices_rpu (b : Bool) (s : State) : (linkNotices b s).rpu = s.rpu := by
  simp [linkNotices]
@[simp] theorem linkNotices_freeSeq (b : Bool) (s : State) : (linkNotices b s).freeSeq = s.freeSeq := by
  simp [linkNotices]
@[simp] theorem linkNotices_pending (b : Bool) (s : State) : (linkNotices b s).pending = s.pending := by
  simp [linkNotices]

/-! ### linkExpiry -/

@[simp] theorem linkExpiry_headTime (s : State) : (linkExpiry s).headTime = s.headTime := by
  simp [linkExpiry]; split <;> simp
@[simp] theorem linkExpiry_nSet (s : State) : (linkExpiry s).nSet = s.nSet := by
  simp [linkExpiry]; split <;> simp
@[simp] theorem linkExpiry_sru (s : State) : (linkExpiry s).sru = s.sru := by
  simp [linkExpiry]; split <;> simp
@[simp] theorem linkExpiry_sbm (s : State) : (linkExpiry s).sbm = s.sbm := by
  simp [linkExpiry]; split <;> simp
@[simp] theorem linkExpiry_tst (s : State) : (linkExpiry s).tst = s.tst := by
  simp [linkExpiry]; split <;> simp
@[simp] theorem linkExpiry_freeSeq (s : State) : (linkExpiry s).freeSeq = s.freeSeq := by
  simp [linkExpiry]; split <;> simp
@[simp] theorem linkExpiry_pending (s : State) : (linkExpiry s).pending = s.pending := by
  simp [linkExpiry]; split <;> simp

/-! ### relockExpiry -/

@[simp] theorem relockExpiry_headTime (s : State) : (relockExpiry s).headTime = s.headTime := by
  simp [relockExpiry]; split <;> simp
@[simp] theorem relockExpiry_nSet (s : State) : (relockExpiry s).nSet = s.nSet := by
  simp [relockExpiry]; split <;> simp
@[simp] theorem relockExpiry_sru (s : State) : (relockExpiry s).sru = s.sru := by
  simp [relockExpiry]; split <;> simp
@[simp] theorem relockExpiry_sbm (s : State) : (relockExpiry s).sbm = s.sbm := by
  simp [relockExpiry]; split <;> simp
@[simp] theorem relockExpiry_tst (s : State) : (relockExpiry s).tst = s.tst := by
  simp [relockExpiry]; split <;> simp
@[simp] theorem relockExpiry_freeSeq (s : State) : (relockExpiry s).freeSeq = s.freeSeq := by
  simp [relockExpiry]; split <;> simp
@[simp] theorem relockExpiry_pending (s : State) : (relockExpiry s).pending = s.pending := by
  simp [relockExpiry]; split <;> simp

/-! ### statusExpiry -/

@[simp] theorem statusExpiry_headTime (s : State) : (statusExpiry s).headTime = s.headTime := by
  simp [statusExpiry]; split <;> simp
@[simp] theorem statusExpiry_vtr (s : State) : (statusExpiry s).vtr = s.vtr := by
  simp [statusExpiry]; split <;> simp
@[simp] theorem statusExpiry_spl (s : State) : (statusExpiry s).spl = s.spl := by
  simp [statusExpiry]; split <;> simp
@[simp] theorem statusExpiry_governorL (s : State) : (statusExpiry s).governorL = s.governorL := by
  simp [statusExpiry]; split <;> simp
@[simp] theorem statusExpiry_governorR (s : State) : (statusExpiry s).governorR = s.governorR := by
  simp [statusExpiry]; split <;> simp
@[simp] theorem statusExpiry_governor (s : State) (drum : Drum) :
    (statusExpiry s).governor drum = s.governor drum := by
  cases drum <;> simp [State.governor]
@[simp] theorem statusExpiry_nSet (s : State) : (statusExpiry s).nSet = s.nSet := by
  simp [statusExpiry]; split <;> simp
@[simp] theorem statusExpiry_sru (s : State) : (statusExpiry s).sru = s.sru := by
  simp [statusExpiry]; split <;> simp
@[simp] theorem statusExpiry_pps (s : State) : (statusExpiry s).pps = s.pps := by
  simp [statusExpiry]; split <;> simp
@[simp] theorem statusExpiry_sbm (s : State) : (statusExpiry s).sbm = s.sbm := by
  simp [statusExpiry]; split <;> simp
@[simp] theorem statusExpiry_tst (s : State) : (statusExpiry s).tst = s.tst := by
  simp [statusExpiry]; split <;> simp
@[simp] theorem statusExpiry_freeSeq (s : State) : (statusExpiry s).freeSeq = s.freeSeq := by
  simp [statusExpiry]; split <;> simp
@[simp] theorem statusExpiry_pending (s : State) : (statusExpiry s).pending = s.pending := by
  simp [statusExpiry]; split <;> simp

/-! ### controlLink -/

@[simp] theorem controlLink_headTime (s : State) : (controlLink s).headTime = s.headTime := by
  simp [controlLink]; split <;> simp
@[simp] theorem controlLink_vtr (s : State) : (controlLink s).vtr = s.vtr := by
  simp [controlLink]; split <;> simp
@[simp] theorem controlLink_spl (s : State) : (controlLink s).spl = s.spl := by
  simp [controlLink]; split <;> simp
@[simp] theorem controlLink_governorL (s : State) : (controlLink s).governorL = s.governorL := by
  simp [controlLink]; split <;> simp
@[simp] theorem controlLink_governorR (s : State) : (controlLink s).governorR = s.governorR := by
  simp [controlLink]; split <;> simp
@[simp] theorem controlLink_governor (s : State) (drum : Drum) :
    (controlLink s).governor drum = s.governor drum := by
  cases drum <;> simp [State.governor]
@[simp] theorem controlLink_nSet (s : State) : (controlLink s).nSet = s.nSet := by
  simp [controlLink]; split <;> simp
@[simp] theorem controlLink_sru (s : State) : (controlLink s).sru = s.sru := by
  simp [controlLink]; split <;> simp
@[simp] theorem controlLink_pps (s : State) : (controlLink s).pps = s.pps := by
  simp [controlLink]; split <;> simp
@[simp] theorem controlLink_sbm (s : State) : (controlLink s).sbm = s.sbm := by
  simp [controlLink]; split <;> simp
@[simp] theorem controlLink_tst (s : State) : (controlLink s).tst = s.tst := by
  simp [controlLink]; split <;> simp
@[simp] theorem controlLink_freeSeq (s : State) : (controlLink s).freeSeq = s.freeSeq := by
  simp [controlLink]; split <;> simp
@[simp] theorem controlLink_pending (s : State) : (controlLink s).pending = s.pending := by
  simp [controlLink]; split <;> simp

/-! ### discardFrame -/

@[simp] theorem discardFrame_headTime (s : State) : (discardFrame s).headTime = s.headTime := by
  simp [discardFrame]; split <;> simp
@[simp] theorem discardFrame_vtr (s : State) : (discardFrame s).vtr = s.vtr := by
  simp [discardFrame]; split <;> simp
@[simp] theorem discardFrame_spl (s : State) : (discardFrame s).spl = s.spl := by
  simp [discardFrame]; split <;> simp
@[simp] theorem discardFrame_governorL (s : State) : (discardFrame s).governorL = s.governorL := by
  simp [discardFrame]; split <;> simp
@[simp] theorem discardFrame_governorR (s : State) : (discardFrame s).governorR = s.governorR := by
  simp [discardFrame]; split <;> simp
@[simp] theorem discardFrame_governor (s : State) (drum : Drum) :
    (discardFrame s).governor drum = s.governor drum := by
  cases drum <;> simp [State.governor]
@[simp] theorem discardFrame_nSet (s : State) : (discardFrame s).nSet = s.nSet := by
  simp [discardFrame]; split <;> simp
@[simp] theorem discardFrame_sru (s : State) : (discardFrame s).sru = s.sru := by
  simp [discardFrame]; split <;> simp
@[simp] theorem discardFrame_pps (s : State) : (discardFrame s).pps = s.pps := by
  simp [discardFrame]; split <;> simp
@[simp] theorem discardFrame_sbm (s : State) : (discardFrame s).sbm = s.sbm := by
  simp [discardFrame]; split <;> simp
@[simp] theorem discardFrame_tst (s : State) : (discardFrame s).tst = s.tst := by
  simp [discardFrame]; split <;> simp
@[simp] theorem discardFrame_freeSeq (s : State) : (discardFrame s).freeSeq = s.freeSeq := by
  simp [discardFrame]; split <;> simp
@[simp] theorem discardFrame_pending (s : State) : (discardFrame s).pending = s.pending := by
  simp [discardFrame]; split <;> simp

/-! ### acceptFrame -/

@[simp] theorem acceptFrame_headTime (s : State) : (acceptFrame s).headTime = s.headTime := by
  simp [acceptFrame]
@[simp] theorem acceptFrame_vtr (s : State) : (acceptFrame s).vtr = s.vtr := by
  simp [acceptFrame]
@[simp] theorem acceptFrame_spl (s : State) : (acceptFrame s).spl = s.spl := by
  simp [acceptFrame]
@[simp] theorem acceptFrame_governorL (s : State) : (acceptFrame s).governorL = s.governorL := by
  simp [acceptFrame]
@[simp] theorem acceptFrame_governorR (s : State) : (acceptFrame s).governorR = s.governorR := by
  simp [acceptFrame]
@[simp] theorem acceptFrame_governor (s : State) (drum : Drum) :
    (acceptFrame s).governor drum = s.governor drum := by
  cases drum <;> simp [State.governor]
@[simp] theorem acceptFrame_nSet (s : State) : (acceptFrame s).nSet = s.nSet := by
  simp [acceptFrame]
@[simp] theorem acceptFrame_sru (s : State) : (acceptFrame s).sru = s.sru := by
  simp [acceptFrame]
@[simp] theorem acceptFrame_pps (s : State) : (acceptFrame s).pps = s.pps := by
  simp [acceptFrame]
@[simp] theorem acceptFrame_sbm (s : State) : (acceptFrame s).sbm = s.sbm := by
  simp [acceptFrame]
@[simp] theorem acceptFrame_tst (s : State) : (acceptFrame s).tst = s.tst := by
  simp [acceptFrame]
@[simp] theorem acceptFrame_rpu (s : State) : (acceptFrame s).rpu = s.rpu := by
  simp [acceptFrame]
@[simp] theorem acceptFrame_freeSeq (s : State) : (acceptFrame s).freeSeq = s.freeSeq := by
  simp [acceptFrame]
@[simp] theorem acceptFrame_pending (s : State) : (acceptFrame s).pending = s.pending := by
  simp [acceptFrame]

/-! ### deliverControl -/

@[simp] theorem deliverControl_headTime (f : ControlFields) (s : State) :
    (deliverControl f s).headTime = s.headTime := by
  simp [deliverControl]
@[simp] theorem deliverControl_sbm (f : ControlFields) (s : State) : (deliverControl f s).sbm = s.sbm := by
  simp [deliverControl]
@[simp] theorem deliverControl_tst (f : ControlFields) (s : State) : (deliverControl f s).tst = s.tst := by
  simp [deliverControl]
@[simp] theorem deliverControl_freeSeq (f : ControlFields) (s : State) :
    (deliverControl f s).freeSeq = s.freeSeq := by
  simp [deliverControl]
@[simp] theorem deliverControl_pending (f : ControlFields) (s : State) :
    (deliverControl f s).pending = s.pending := by
  simp [deliverControl]

/-! ### requestPanelStart -/

@[simp] theorem requestPanelStart_headTime (c : Byte) (d : Nat) (a b : Int) (s : State) :
    (requestPanelStart c d a b s).headTime = s.headTime := by
  simp [requestPanelStart]; split <;> simp
@[simp] theorem requestPanelStart_governorL (c : Byte) (d : Nat) (a b : Int) (s : State) :
    (requestPanelStart c d a b s).governorL = s.governorL := by
  simp [requestPanelStart]; split <;> simp
@[simp] theorem requestPanelStart_governorR (c : Byte) (d : Nat) (a b : Int) (s : State) :
    (requestPanelStart c d a b s).governorR = s.governorR := by
  simp [requestPanelStart]; split <;> simp
@[simp] theorem requestPanelStart_governor (c : Byte) (d : Nat) (a b : Int) (s : State) (drum : Drum) :
    (requestPanelStart c d a b s).governor drum = s.governor drum := by
  cases drum <;> simp [State.governor]
@[simp] theorem requestPanelStart_nSet (c : Byte) (d : Nat) (a b : Int) (s : State) :
    (requestPanelStart c d a b s).nSet = s.nSet := by
  simp [requestPanelStart]; split <;> simp
@[simp] theorem requestPanelStart_sru (c : Byte) (d : Nat) (a b : Int) (s : State) :
    (requestPanelStart c d a b s).sru = s.sru := by
  simp [requestPanelStart]; split <;> simp
@[simp] theorem requestPanelStart_sbm (c : Byte) (d : Nat) (a b : Int) (s : State) :
    (requestPanelStart c d a b s).sbm = s.sbm := by
  simp [requestPanelStart]; split <;> simp
@[simp] theorem requestPanelStart_tst (c : Byte) (d : Nat) (a b : Int) (s : State) :
    (requestPanelStart c d a b s).tst = s.tst := by
  simp [requestPanelStart]; split <;> simp
@[simp] theorem requestPanelStart_freeSeq (c : Byte) (d : Nat) (a b : Int) (s : State) :
    (requestPanelStart c d a b s).freeSeq = s.freeSeq := by
  simp [requestPanelStart]; split <;> simp
@[simp] theorem requestPanelStart_pending (c : Byte) (d : Nat) (a b : Int) (s : State) :
    (requestPanelStart c d a b s).pending = s.pending := by
  simp [requestPanelStart]; split <;> simp

/-! ### requestLogRead -/

@[simp] theorem requestLogRead_headTime (c : Byte) (n m : Nat) (s : State) :
    (requestLogRead c n m s).headTime = s.headTime := by
  simp only [requestLogRead]; repeat' split
  all_goals simp
@[simp] theorem requestLogRead_vtr (c : Byte) (n m : Nat) (s : State) : (requestLogRead c n m s).vtr = s.vtr := by
  simp only [requestLogRead]; repeat' split
  all_goals simp
@[simp] theorem requestLogRead_spl (c : Byte) (n m : Nat) (s : State) : (requestLogRead c n m s).spl = s.spl := by
  simp only [requestLogRead]; repeat' split
  all_goals simp
@[simp] theorem requestLogRead_governorL (c : Byte) (n m : Nat) (s : State) :
    (requestLogRead c n m s).governorL = s.governorL := by
  simp only [requestLogRead]; repeat' split
  all_goals simp
@[simp] theorem requestLogRead_governorR (c : Byte) (n m : Nat) (s : State) :
    (requestLogRead c n m s).governorR = s.governorR := by
  simp only [requestLogRead]; repeat' split
  all_goals simp
@[simp] theorem requestLogRead_governor (c : Byte) (n m : Nat) (s : State) (drum : Drum) :
    (requestLogRead c n m s).governor drum = s.governor drum := by
  cases drum <;> simp [State.governor]
@[simp] theorem requestLogRead_nSet (c : Byte) (n m : Nat) (s : State) : (requestLogRead c n m s).nSet = s.nSet := by
  simp only [requestLogRead]; repeat' split
  all_goals simp
@[simp] theorem requestLogRead_sru (c : Byte) (n m : Nat) (s : State) : (requestLogRead c n m s).sru = s.sru := by
  simp only [requestLogRead]; repeat' split
  all_goals simp
@[simp] theorem requestLogRead_pps (c : Byte) (n m : Nat) (s : State) : (requestLogRead c n m s).pps = s.pps := by
  simp only [requestLogRead]; repeat' split
  all_goals simp
@[simp] theorem requestLogRead_sbm (c : Byte) (n m : Nat) (s : State) : (requestLogRead c n m s).sbm = s.sbm := by
  simp only [requestLogRead]; repeat' split
  all_goals simp
@[simp] theorem requestLogRead_tst (c : Byte) (n m : Nat) (s : State) : (requestLogRead c n m s).tst = s.tst := by
  simp only [requestLogRead]; repeat' split
  all_goals simp
@[simp] theorem requestLogRead_freeSeq (c : Byte) (n m : Nat) (s : State) :
    (requestLogRead c n m s).freeSeq = s.freeSeq := by
  simp only [requestLogRead]; repeat' split
  all_goals simp
@[simp] theorem requestLogRead_pending (c : Byte) (n m : Nat) (s : State) :
    (requestLogRead c n m s).pending = s.pending := by
  simp only [requestLogRead]; repeat' split
  all_goals simp

/-! ### dispatchClear -/

@[simp] theorem dispatchClear_headTime (x : ClearSelector) (s : State) :
    (dispatchClear x s).headTime = s.headTime := by
  simp [dispatchClear]; split <;> simp
@[simp] theorem dispatchClear_vtr (x : ClearSelector) (s : State) : (dispatchClear x s).vtr = s.vtr := by
  simp [dispatchClear]; split <;> simp
@[simp] theorem dispatchClear_spl (x : ClearSelector) (s : State) : (dispatchClear x s).spl = s.spl := by
  simp [dispatchClear]; split <;> simp
@[simp] theorem dispatchClear_nSet (x : ClearSelector) (s : State) : (dispatchClear x s).nSet = s.nSet := by
  simp [dispatchClear]; split <;> simp
@[simp] theorem dispatchClear_sbm (x : ClearSelector) (s : State) : (dispatchClear x s).sbm = s.sbm := by
  simp [dispatchClear]; split <;> simp
@[simp] theorem dispatchClear_tst (x : ClearSelector) (s : State) : (dispatchClear x s).tst = s.tst := by
  simp [dispatchClear]; split <;> simp
@[simp] theorem dispatchClear_ulp (x : ClearSelector) (s : State) : (dispatchClear x s).ulp = s.ulp := by
  simp [dispatchClear]; split <;> simp
@[simp] theorem dispatchClear_rpu (x : ClearSelector) (s : State) : (dispatchClear x s).rpu = s.rpu := by
  simp [dispatchClear]; split <;> simp
@[simp] theorem dispatchClear_freeSeq (x : ClearSelector) (s : State) : (dispatchClear x s).freeSeq = s.freeSeq := by
  simp [dispatchClear]; split <;> simp
@[simp] theorem dispatchClear_pending (x : ClearSelector) (s : State) : (dispatchClear x s).pending = s.pending := by
  simp [dispatchClear]; split <;> simp

/-! ### requestClear -/

@[simp] theorem requestClear_headTime (c x : Byte) (s : State) : (requestClear c x s).headTime = s.headTime := by
  simp [requestClear]; split <;> simp
@[simp] theorem requestClear_vtr (c x : Byte) (s : State) : (requestClear c x s).vtr = s.vtr := by
  simp [requestClear]; split <;> simp
@[simp] theorem requestClear_spl (c x : Byte) (s : State) : (requestClear c x s).spl = s.spl := by
  simp [requestClear]; split <;> simp
@[simp] theorem requestClear_nSet (c x : Byte) (s : State) : (requestClear c x s).nSet = s.nSet := by
  simp [requestClear]; split <;> simp
@[simp] theorem requestClear_sbm (c x : Byte) (s : State) : (requestClear c x s).sbm = s.sbm := by
  simp [requestClear]; split <;> simp
@[simp] theorem requestClear_tst (c x : Byte) (s : State) : (requestClear c x s).tst = s.tst := by
  simp [requestClear]; split <;> simp
@[simp] theorem requestClear_rpu (c x : Byte) (s : State) : (requestClear c x s).rpu = s.rpu := by
  simp [requestClear]; split <;> simp
@[simp] theorem requestClear_freeSeq (c x : Byte) (s : State) : (requestClear c x s).freeSeq = s.freeSeq := by
  simp [requestClear]; split <;> simp
@[simp] theorem requestClear_pending (c x : Byte) (s : State) : (requestClear c x s).pending = s.pending := by
  simp [requestClear]; split <;> simp

/-! ### requestNodeAccess -/

@[simp] theorem requestNodeAccess_headTime (c a o w : Byte) (v : BitVec 16) (s : State) :
    (requestNodeAccess c a o w v s).headTime = s.headTime := by
  simp only [requestNodeAccess]; repeat' split
  all_goals simp
@[simp] theorem requestNodeAccess_vtr (c a o w : Byte) (v : BitVec 16) (s : State) :
    (requestNodeAccess c a o w v s).vtr = s.vtr := by
  simp only [requestNodeAccess]; repeat' split
  all_goals simp
@[simp] theorem requestNodeAccess_spl (c a o w : Byte) (v : BitVec 16) (s : State) :
    (requestNodeAccess c a o w v s).spl = s.spl := by
  simp only [requestNodeAccess]; repeat' split
  all_goals simp
@[simp] theorem requestNodeAccess_governorL (c a o w : Byte) (v : BitVec 16) (s : State) :
    (requestNodeAccess c a o w v s).governorL = s.governorL := by
  simp only [requestNodeAccess]; repeat' split
  all_goals simp
@[simp] theorem requestNodeAccess_governorR (c a o w : Byte) (v : BitVec 16) (s : State) :
    (requestNodeAccess c a o w v s).governorR = s.governorR := by
  simp only [requestNodeAccess]; repeat' split
  all_goals simp
@[simp] theorem requestNodeAccess_governor (c a o w : Byte) (v : BitVec 16) (s : State) (drum : Drum) :
    (requestNodeAccess c a o w v s).governor drum = s.governor drum := by
  cases drum <;> simp [State.governor]
@[simp] theorem requestNodeAccess_nSet (c a o w : Byte) (v : BitVec 16) (s : State) :
    (requestNodeAccess c a o w v s).nSet = s.nSet := by
  simp only [requestNodeAccess]; repeat' split
  all_goals simp
@[simp] theorem requestNodeAccess_sru (c a o w : Byte) (v : BitVec 16) (s : State) :
    (requestNodeAccess c a o w v s).sru = s.sru := by
  simp only [requestNodeAccess]; repeat' split
  all_goals simp
@[simp] theorem requestNodeAccess_pps (c a o w : Byte) (v : BitVec 16) (s : State) :
    (requestNodeAccess c a o w v s).pps = s.pps := by
  simp only [requestNodeAccess]; repeat' split
  all_goals simp
@[simp] theorem requestNodeAccess_tst (c a o w : Byte) (v : BitVec 16) (s : State) :
    (requestNodeAccess c a o w v s).tst = s.tst := by
  simp only [requestNodeAccess]; repeat' split
  all_goals simp
@[simp] theorem requestNodeAccess_rpu (c a o w : Byte) (v : BitVec 16) (s : State) :
    (requestNodeAccess c a o w v s).rpu = s.rpu := by
  simp only [requestNodeAccess]; repeat' split
  all_goals simp
@[simp] theorem requestNodeAccess_freeSeq (c a o w : Byte) (v : BitVec 16) (s : State) :
    (requestNodeAccess c a o w v s).freeSeq = s.freeSeq := by
  simp only [requestNodeAccess]; repeat' split
  all_goals simp
@[simp] theorem requestNodeAccess_pending (c a o w : Byte) (v : BitVec 16) (s : State) :
    (requestNodeAccess c a o w v s).pending = s.pending := by
  simp only [requestNodeAccess]; repeat' split
  all_goals simp

/-! ### requestStatus -/

@[simp] theorem requestStatus_headTime (s : State) : (requestStatus s).headTime = s.headTime := by
  simp [requestStatus]
@[simp] theorem requestStatus_vtr (s : State) : (requestStatus s).vtr = s.vtr := by
  simp [requestStatus]
@[simp] theorem requestStatus_spl (s : State) : (requestStatus s).spl = s.spl := by
  simp [requestStatus]
@[simp] theorem requestStatus_governorL (s : State) : (requestStatus s).governorL = s.governorL := by
  simp [requestStatus]
@[simp] theorem requestStatus_governorR (s : State) : (requestStatus s).governorR = s.governorR := by
  simp [requestStatus]
@[simp] theorem requestStatus_governor (s : State) (drum : Drum) :
    (requestStatus s).governor drum = s.governor drum := by
  cases drum <;> simp [State.governor]
@[simp] theorem requestStatus_nSet (s : State) : (requestStatus s).nSet = s.nSet := by
  simp [requestStatus]
@[simp] theorem requestStatus_sru (s : State) : (requestStatus s).sru = s.sru := by
  simp [requestStatus]
@[simp] theorem requestStatus_pps (s : State) : (requestStatus s).pps = s.pps := by
  simp [requestStatus]
@[simp] theorem requestStatus_sbm (s : State) : (requestStatus s).sbm = s.sbm := by
  simp [requestStatus]
@[simp] theorem requestStatus_tst (s : State) : (requestStatus s).tst = s.tst := by
  simp [requestStatus]
@[simp] theorem requestStatus_rpu (s : State) : (requestStatus s).rpu = s.rpu := by
  simp [requestStatus]
@[simp] theorem requestStatus_freeSeq (s : State) : (requestStatus s).freeSeq = s.freeSeq := by
  simp [requestStatus]
@[simp] theorem requestStatus_pending (s : State) : (requestStatus s).pending = s.pending := by
  simp [requestStatus]

/-! ### requestEcho -/

@[simp] theorem requestEcho_headTime (c : Byte) (p : List Byte) (s : State) :
    (requestEcho c p s).headTime = s.headTime := by
  simp [requestEcho]; split <;> simp
@[simp] theorem requestEcho_vtr (c : Byte) (p : List Byte) (s : State) : (requestEcho c p s).vtr = s.vtr := by
  simp [requestEcho]; split <;> simp
@[simp] theorem requestEcho_spl (c : Byte) (p : List Byte) (s : State) : (requestEcho c p s).spl = s.spl := by
  simp [requestEcho]; split <;> simp
@[simp] theorem requestEcho_governorL (c : Byte) (p : List Byte) (s : State) :
    (requestEcho c p s).governorL = s.governorL := by
  simp [requestEcho]; split <;> simp
@[simp] theorem requestEcho_governorR (c : Byte) (p : List Byte) (s : State) :
    (requestEcho c p s).governorR = s.governorR := by
  simp [requestEcho]; split <;> simp
@[simp] theorem requestEcho_governor (c : Byte) (p : List Byte) (s : State) (drum : Drum) :
    (requestEcho c p s).governor drum = s.governor drum := by
  cases drum <;> simp [State.governor]
@[simp] theorem requestEcho_nSet (c : Byte) (p : List Byte) (s : State) : (requestEcho c p s).nSet = s.nSet := by
  simp [requestEcho]; split <;> simp
@[simp] theorem requestEcho_sru (c : Byte) (p : List Byte) (s : State) : (requestEcho c p s).sru = s.sru := by
  simp [requestEcho]; split <;> simp
@[simp] theorem requestEcho_pps (c : Byte) (p : List Byte) (s : State) : (requestEcho c p s).pps = s.pps := by
  simp [requestEcho]; split <;> simp
@[simp] theorem requestEcho_sbm (c : Byte) (p : List Byte) (s : State) : (requestEcho c p s).sbm = s.sbm := by
  simp [requestEcho]; split <;> simp
@[simp] theorem requestEcho_tst (c : Byte) (p : List Byte) (s : State) : (requestEcho c p s).tst = s.tst := by
  simp [requestEcho]; split <;> simp
@[simp] theorem requestEcho_rpu (c : Byte) (p : List Byte) (s : State) : (requestEcho c p s).rpu = s.rpu := by
  simp [requestEcho]; split <;> simp
@[simp] theorem requestEcho_freeSeq (c : Byte) (p : List Byte) (s : State) :
    (requestEcho c p s).freeSeq = s.freeSeq := by
  simp [requestEcho]; split <;> simp
@[simp] theorem requestEcho_pending (c : Byte) (p : List Byte) (s : State) :
    (requestEcho c p s).pending = s.pending := by
  simp [requestEcho]; split <;> simp

/-! ### headResetPlanner -/

@[simp] theorem headResetPlanner_headTime (s : State) : (headResetPlanner s).headTime = s.headTime := by
  simp [headResetPlanner]
@[simp] theorem headResetPlanner_vtr (s : State) : (headResetPlanner s).vtr = s.vtr := by
  simp [headResetPlanner]
@[simp] theorem headResetPlanner_governorL (s : State) : (headResetPlanner s).governorL = s.governorL := by
  simp [headResetPlanner]
@[simp] theorem headResetPlanner_governorR (s : State) : (headResetPlanner s).governorR = s.governorR := by
  simp [headResetPlanner]
@[simp] theorem headResetPlanner_governor (s : State) (drum : Drum) :
    (headResetPlanner s).governor drum = s.governor drum := by
  cases drum <;> simp [State.governor]
@[simp] theorem headResetPlanner_nSet (s : State) : (headResetPlanner s).nSet = s.nSet := by
  simp [headResetPlanner]
@[simp] theorem headResetPlanner_sru (s : State) : (headResetPlanner s).sru = s.sru := by
  simp [headResetPlanner]
@[simp] theorem headResetPlanner_sbm (s : State) : (headResetPlanner s).sbm = s.sbm := by
  simp [headResetPlanner]
@[simp] theorem headResetPlanner_tst (s : State) : (headResetPlanner s).tst = s.tst := by
  simp [headResetPlanner]
@[simp] theorem headResetPlanner_ulp (s : State) : (headResetPlanner s).ulp = s.ulp := by
  simp [headResetPlanner]
@[simp] theorem headResetPlanner_rpu (s : State) : (headResetPlanner s).rpu = s.rpu := by
  simp [headResetPlanner]
@[simp] theorem headResetPlanner_freeSeq (s : State) : (headResetPlanner s).freeSeq = s.freeSeq := by
  simp [headResetPlanner]
@[simp] theorem headResetPlanner_pending (s : State) : (headResetPlanner s).pending = s.pending := by
  simp [headResetPlanner]

/-! ### headResetSteering -/

@[simp] theorem headResetSteering_headTime (s : State) : (headResetSteering s).headTime = s.headTime := by
  simp only [headResetSteering]; repeat' split <;> simp
@[simp] theorem headResetSteering_vtr (s : State) : (headResetSteering s).vtr = s.vtr := by
  simp only [headResetSteering]; repeat' split <;> simp
@[simp] theorem headResetSteering_governorL (s : State) : (headResetSteering s).governorL = s.governorL := by
  simp only [headResetSteering]; repeat' split <;> simp
@[simp] theorem headResetSteering_governorR (s : State) : (headResetSteering s).governorR = s.governorR := by
  simp only [headResetSteering]; repeat' split <;> simp
@[simp] theorem headResetSteering_governor (s : State) (drum : Drum) :
    (headResetSteering s).governor drum = s.governor drum := by
  cases drum <;> simp [State.governor]
@[simp] theorem headResetSteering_nSet (s : State) : (headResetSteering s).nSet = s.nSet := by
  simp only [headResetSteering]; repeat' split <;> simp
@[simp] theorem headResetSteering_sru (s : State) : (headResetSteering s).sru = s.sru := by
  simp only [headResetSteering]; repeat' split <;> simp
@[simp] theorem headResetSteering_sbm (s : State) : (headResetSteering s).sbm = s.sbm := by
  simp only [headResetSteering]; repeat' split <;> simp
@[simp] theorem headResetSteering_tst (s : State) : (headResetSteering s).tst = s.tst := by
  simp only [headResetSteering]; repeat' split <;> simp
@[simp] theorem headResetSteering_ulp (s : State) : (headResetSteering s).ulp = s.ulp := by
  simp only [headResetSteering]; repeat' split <;> simp
@[simp] theorem headResetSteering_rpu (s : State) : (headResetSteering s).rpu = s.rpu := by
  simp only [headResetSteering]; repeat' split <;> simp
@[simp] theorem headResetSteering_pending (s : State) : (headResetSteering s).pending = s.pending := by
  simp only [headResetSteering]; repeat' split <;> simp

/-! ### requestHeadReset -/

@[simp] theorem requestHeadReset_headTime (c : Byte) (s : State) : (requestHeadReset c s).headTime = s.headTime := by
  simp [requestHeadReset]
@[simp] theorem requestHeadReset_tst (c : Byte) (s : State) : (requestHeadReset c s).tst = s.tst := by
  simp [requestHeadReset]
@[simp] theorem requestHeadReset_pending (c : Byte) (s : State) : (requestHeadReset c s).pending = s.pending := by
  simp [requestHeadReset]

/-! ### executeFrame -/

@[simp] theorem executeFrame_headTime (i : Instr) (s : State) : (executeFrame i s).headTime = s.headTime := by
  cases i <;> simp [executeFrame, ifAnswerable] <;> split <;> simp
@[simp] theorem executeFrame_pending (i : Instr) (s : State) : (executeFrame i s).pending = s.pending := by
  cases i <;> simp [executeFrame, ifAnswerable] <;> split <;> simp

/-! ### takeFrame -/

@[simp] theorem takeFrame_headTime (i : Instr) (s : State) : (takeFrame i s).headTime = s.headTime := by
  simp [takeFrame]; split <;> simp
@[simp] theorem takeFrame_pending (i : Instr) (s : State) : (takeFrame i s).pending = s.pending := by
  simp [takeFrame]; split <;> simp

/-! ### takeDiscard -/

@[simp] theorem takeDiscard_headTime (s : State) : (takeDiscard s).headTime = s.headTime := by
  simp [takeDiscard]; split <;> simp
@[simp] theorem takeDiscard_vtr (s : State) : (takeDiscard s).vtr = s.vtr := by
  simp [takeDiscard]; split <;> simp
@[simp] theorem takeDiscard_spl (s : State) : (takeDiscard s).spl = s.spl := by
  simp [takeDiscard]; split <;> simp
@[simp] theorem takeDiscard_governorL (s : State) : (takeDiscard s).governorL = s.governorL := by
  simp [takeDiscard]; split <;> simp
@[simp] theorem takeDiscard_governorR (s : State) : (takeDiscard s).governorR = s.governorR := by
  simp [takeDiscard]; split <;> simp
@[simp] theorem takeDiscard_governor (s : State) (drum : Drum) :
    (takeDiscard s).governor drum = s.governor drum := by
  cases drum <;> simp [State.governor]
@[simp] theorem takeDiscard_nSet (s : State) : (takeDiscard s).nSet = s.nSet := by
  simp [takeDiscard]; split <;> simp
@[simp] theorem takeDiscard_sru (s : State) : (takeDiscard s).sru = s.sru := by
  simp [takeDiscard]; split <;> simp
@[simp] theorem takeDiscard_pps (s : State) : (takeDiscard s).pps = s.pps := by
  simp [takeDiscard]; split <;> simp
@[simp] theorem takeDiscard_sbm (s : State) : (takeDiscard s).sbm = s.sbm := by
  simp [takeDiscard]; split <;> simp
@[simp] theorem takeDiscard_tst (s : State) : (takeDiscard s).tst = s.tst := by
  simp [takeDiscard]; split <;> simp
@[simp] theorem takeDiscard_freeSeq (s : State) : (takeDiscard s).freeSeq = s.freeSeq := by
  simp [takeDiscard]; split <;> simp
@[simp] theorem takeDiscard_pending (s : State) : (takeDiscard s).pending = s.pending := by
  simp [takeDiscard]; split <;> simp

/-! ### gapExpiry -/

@[simp] theorem gapExpiry_headTime (s : State) : (gapExpiry s).headTime = s.headTime := by
  simp [gapExpiry]; split <;> simp
@[simp] theorem gapExpiry_vtr (s : State) : (gapExpiry s).vtr = s.vtr := by
  simp [gapExpiry]; split <;> simp
@[simp] theorem gapExpiry_spl (s : State) : (gapExpiry s).spl = s.spl := by
  simp [gapExpiry]; split <;> simp
@[simp] theorem gapExpiry_governorL (s : State) : (gapExpiry s).governorL = s.governorL := by
  simp [gapExpiry]; split <;> simp
@[simp] theorem gapExpiry_governorR (s : State) : (gapExpiry s).governorR = s.governorR := by
  simp [gapExpiry]; split <;> simp
@[simp] theorem gapExpiry_governor (s : State) (drum : Drum) :
    (gapExpiry s).governor drum = s.governor drum := by
  cases drum <;> simp [State.governor]
@[simp] theorem gapExpiry_nSet (s : State) : (gapExpiry s).nSet = s.nSet := by
  simp [gapExpiry]; split <;> simp
@[simp] theorem gapExpiry_sru (s : State) : (gapExpiry s).sru = s.sru := by
  simp [gapExpiry]; split <;> simp
@[simp] theorem gapExpiry_pps (s : State) : (gapExpiry s).pps = s.pps := by
  simp [gapExpiry]; split <;> simp
@[simp] theorem gapExpiry_sbm (s : State) : (gapExpiry s).sbm = s.sbm := by
  simp [gapExpiry]; split <;> simp
@[simp] theorem gapExpiry_tst (s : State) : (gapExpiry s).tst = s.tst := by
  simp [gapExpiry]; split <;> simp
@[simp] theorem gapExpiry_freeSeq (s : State) : (gapExpiry s).freeSeq = s.freeSeq := by
  simp [gapExpiry]; split <;> simp
@[simp] theorem gapExpiry_pending (s : State) : (gapExpiry s).pending = s.pending := by
  simp [gapExpiry]; split <;> simp

/-! ### assembleCharacter -/

@[simp] theorem assembleCharacter_headTime (c : LinkChar) (s : State) :
    (assembleCharacter c s).headTime = s.headTime := by
  simp only [assembleCharacter]; repeat' split
  all_goals simp
@[simp] theorem assembleCharacter_pending (c : LinkChar) (s : State) :
    (assembleCharacter c s).pending = s.pending := by
  simp only [assembleCharacter]; repeat' split
  all_goals simp

/-! ### receiveCharacter -/

@[simp] theorem receiveCharacter_headTime (c : LinkChar) (s : State) :
    (receiveCharacter c s).headTime = s.headTime := by
  simp [receiveCharacter]; split <;> simp
@[simp] theorem receiveCharacter_pending (c : LinkChar) (s : State) : (receiveCharacter c s).pending = s.pending := by
  simp [receiveCharacter]; split <;> simp

end Sys2Proof.Machine
end

