-- ==== Sys2Proof/Laws/PerInstr.lean ====
section
/-! SUPPORT. Facts about every command, one lemma for each constructor. -/

namespace Sys2Proof.Laws.PayloadFits

open Sys2Proof.Machine

/-- The frame of a command that can arrive carries at most 120 payload bytes (09_umbilical_link.md, section 9.4). -/
def Statement (i : Instr) : Prop :=
  i.wellFormed = true → ∀ frame : Byte × Byte × List Byte, frameOf i = some frame → frame.2.2.length ≤ 120

/-- A command that is no frame has no payload. -/
theorem of_none {i : Instr} (h : frameOf i = none) : Statement i := by
  intro _ frame hf
  rw [h] at hf
  cases hf

/-- A command whose frame is known and fits. -/
theorem of_some {i : Instr} {frame : Byte × Byte × List Byte} (h : frameOf i = some frame)
    (fits : i.wellFormed = true → frame.2.2.length ≤ 120) : Statement i := by
  intro hw other ho
  rw [h] at ho
  cases ho
  exact fits hw

theorem hardwareReset : Statement .hardwareReset :=
  of_none rfl

theorem syncCharacter (c : LinkChar) : Statement (.syncCharacter c) :=
  of_none rfl

theorem huntDwellExpiry : Statement .huntDwellExpiry :=
  of_none rfl

theorem frameDiscard (cause : DiscardCause) : Statement (.frameDiscard cause) :=
  of_none rfl

theorem frameGapTimeout : Statement .frameGapTimeout :=
  of_none rfl

theorem control (tag : Byte) (fields : ControlFields) : Statement (.control tag fields) :=
  of_some rfl (fun _ => by simp [controlBytes, leBytes])

theorem tableOpen (tag table : Byte) : Statement (.tableOpen tag table) :=
  of_some rfl (fun _ => by simp)

theorem tableWrite (tag table row : Byte) (fields : List Byte) : Statement (.tableWrite tag table row fields) :=
  of_some rfl (fun h => by
    have fits := of_decide_eq_true h
    simp only [maxDownlinkPayload] at fits
    simp only [List.length_cons]
    omega)

theorem tableActivate (tag table : Byte) : Statement (.tableActivate tag table) :=
  of_some rfl (fun _ => by simp)

theorem tableRead (tag table bank row : Byte) (extra : List Byte) : Statement (.tableRead tag table bank row extra) :=
  of_some rfl (fun h => by
    have fits := of_decide_eq_true h
    simp only [maxDownlinkPayload] at fits
    simp only [List.length_cons]
    omega)

theorem panelStart (tag : Byte) (d0 : BitVec 32) (ox oy : BitVec 16) : Statement (.panelStart tag d0 ox oy) :=
  of_some rfl (fun _ => by simp [leBytes])

theorem logRead (tag : Byte) (first : BitVec 16) (count : Byte) : Statement (.logRead tag first count) :=
  of_some rfl (fun _ => by simp [leBytes])

theorem clear (tag selector : Byte) : Statement (.clear tag selector) :=
  of_some rfl (fun _ => by simp)

theorem nodeAccess (tag address op register : Byte) (value : BitVec 16) : Statement (.nodeAccess tag address op register value) :=
  of_some rfl (fun _ => by simp [leBytes])

theorem statusRequest (tag : Byte) : Statement (.statusRequest tag) :=
  of_some rfl (fun _ => by simp)

theorem echo (tag : Byte) (payload : List Byte) : Statement (.echo tag payload) :=
  of_some rfl (fun h => of_decide_eq_true h)

theorem headReset (tag : Byte) : Statement (.headReset tag) :=
  of_some rfl (fun _ => by simp)

theorem linkTimeout : Statement .linkTimeout :=
  of_none rfl

theorem relockTimeout : Statement .relockTimeout :=
  of_none rfl

theorem statusDeadline : Statement .statusDeadline :=
  of_none rfl

theorem slotDue (slot : Nat) : Statement (.slotDue slot) :=
  of_none rfl

theorem pairRelease : Statement .pairRelease :=
  of_none rfl

theorem responseComplete (chars : List BusChar) : Statement (.responseComplete chars) :=
  of_none rfl

theorem responseTimeout : Statement .responseTimeout :=
  of_none rfl

theorem quietEnd : Statement .quietEnd :=
  of_none rfl

theorem offTimeExpiry (unit : ProtectedUnit) : Statement (.offTimeExpiry unit) :=
  of_none rfl

theorem primeTimeout : Statement .primeTimeout :=
  of_none rfl

theorem dryTimeout : Statement .dryTimeout :=
  of_none rfl

theorem refreshDeadline : Statement .refreshDeadline :=
  of_none rfl

theorem strokeTimeout (plate : PlateId) : Statement (.strokeTimeout plate) :=
  of_none rfl

theorem dwellEnd (plate : PlateId) : Statement (.dwellEnd plate) :=
  of_none rfl

theorem uplinkFrameEnd : Statement .uplinkFrameEnd :=
  of_none rfl

theorem syncReplyEnd : Statement .syncReplyEnd :=
  of_none rfl

end Sys2Proof.Laws.PayloadFits
end

