-- ==== Sys2Proof/Laws/SpecOps.lean ====
section
/-! SUPPORT. What the shared operations of Machine/Arith.lean and Machine/Ops.lean do, said once: rounding, posting an
event, the queue of events before and after. -/

namespace Sys2Proof.Machine

open Sys2Proof.Safety

/-- Rounding gives the nearest integer, halves away from zero. -/
theorem roundDiv_rounded (n : Int) (d : Nat) (h : 0 < d) : RoundedQuotient n d (roundDiv n d) := by
  have hd : (2 * n.natAbs + d) / (2 * d) * (2 * d) ≤ 2 * n.natAbs + d := Nat.div_mul_le_self _ _
  have hl : 2 * n.natAbs + d < ((2 * n.natAbs + d) / (2 * d) + 1) * (2 * d) :=
    Nat.lt_mul_of_div_lt (Nat.lt_succ_self _) (by omega)
  unfold RoundedQuotient roundDiv
  generalize (2 * n.natAbs + d) / (2 * d) = q at *
  zify at hd hl
  constructor
  · intro hn
    have ha : |n| = n := abs_of_nonneg hn
    simp only [if_neg (not_lt.mpr hn)]
    rw [ha] at hd hl
    constructor <;> nlinarith
  · intro hn
    have ha : |n| = -n := abs_of_neg hn
    simp only [if_pos hn]
    rw [ha] at hd hl
    constructor <;> nlinarith

/-- The rounded quotient of a number is one number. -/
theorem RoundedQuotient.unique {n p q : Int} {d : Nat} (h : 0 < d) (hp : RoundedQuotient n d p)
    (hq : RoundedQuotient n d q) : p = q := by
  have hd : (0 : Int) < d := by exact_mod_cast h
  rcases le_or_gt 0 n with hn | hn
  · obtain ⟨a, b⟩ := hp.1 hn
    obtain ⟨a', b'⟩ := hq.1 hn
    have h1 : p < q + 1 := by nlinarith
    have h2 : q < p + 1 := by nlinarith
    omega
  · obtain ⟨a, b⟩ := hp.2 hn
    obtain ⟨a', b'⟩ := hq.2 hn
    have h1 : p < q + 1 := by nlinarith
    have h2 : q < p + 1 := by nlinarith
    omega

/-- A post updates the entry of its kind and source in place, or adds one at the end. -/
theorem postEntry_posted (now : HeadTime) (k : EventKind) (c : EventSource) (v : Int) (es : List EventEntry) :
    Posted now k c v es (postEntry now k c v es) := by
  induction es with
  | nil => exact .inl ⟨by simp, rfl⟩
  | cons e es ih =>
    unfold postEntry
    split
    · next h => exact .inr ⟨[], es, e, rfl, by simp, h.1, h.2, rfl⟩
    · next h =>
      obtain ⟨hn, he⟩ | ⟨front, back, x, hb, hf, hk, hc, ha⟩ := ih
      · refine .inl ⟨?_, by rw [he]; rfl⟩
        intro y hy
        rcases List.mem_cons.mp hy with rfl | hy
        · exact h
        · exact hn y hy
      · refine .inr ⟨e :: front, back, x, by rw [hb]; rfl, ?_, hk, hc, by rw [ha]; rfl⟩
        intro y hy
        rcases List.mem_cons.mp hy with rfl | hy
        · exact h
        · exact hf y hy

/-- What `Posted` says of a queue holds of one queue only: the one a post leaves. -/
theorem posted_eq {now : HeadTime} {k : EventKind} {c : EventSource} {v : Int} {es after : List EventEntry}
    (h : Posted now k c v es after) : after = postEntry now k c v es := by
  obtain ⟨hn, rfl⟩ | ⟨front, back, e, rfl, hf, hk, hc, rfl⟩ := h
  · induction es with
    | nil => rfl
    | cons e es ih =>
      unfold postEntry
      rw [if_neg (hn e List.mem_cons_self), ← ih (fun y hy => hn y (List.mem_cons_of_mem e hy))]
      rfl
  · induction front with
    | nil => simp [postEntry, hk, hc]
    | cons x front ih =>
      rw [List.cons_append, List.cons_append]
      unfold postEntry
      rw [if_neg (hf x List.mem_cons_self), ← ih (fun y hy => hf y (List.mem_cons_of_mem x hy))]

/-- What a post does to the event queue. -/
theorem post_posted (k : EventKind) (c : EventSource) (v : Int) (s : State) :
    Posted s.headTime k c v s.rpu.events (post k c v s).rpu.events := postEntry_posted _ _ _ _ _

/-- A post changes the Report Unit in its event queue only. -/
theorem post_rpu (k : EventKind) (c : EventSource) (v : Int) (s : State) :
    (post k c v s).rpu = { s.rpu with events := (post k c v s).rpu.events } := rfl

/-- A post is the state with the event queue replaced. -/
theorem post_eq (k : EventKind) (c : EventSource) (v : Int) (s : State) :
    post k c v s = { s with rpu := { s.rpu with events := postEntry s.headTime k c v s.rpu.events } } := rfl

@[simp] theorem post_statusDeadline (k : EventKind) (c : EventSource) (v : Int) (s : State) :
    (post k c v s).rpu.statusDeadline = s.rpu.statusDeadline := rfl

@[simp] theorem post_readout (k : EventKind) (c : EventSource) (v : Int) (s : State) :
    (post k c v s).rpu.readout = s.rpu.readout := rfl

@[simp] theorem post_events (k : EventKind) (c : EventSource) (v : Int) (s : State) :
    (post k c v s).rpu.events = postEntry s.headTime k c v s.rpu.events := rfl

/-- An event just posted waits. -/
theorem postEntry_waits (now : HeadTime) (k : EventKind) (c : EventSource) (v : Int) (es : List EventEntry) :
    Waits now k c v (postEntry now k c v es) := by
  induction es with
  | nil => exact ⟨_, List.mem_singleton.mpr rfl, rfl, rfl, rfl, rfl⟩
  | cons e es ih =>
    unfold postEntry
    split
    · next h => exact ⟨_, List.mem_cons_self, h.1, h.2, rfl, rfl⟩
    · obtain ⟨x, hx, h⟩ := ih
      exact ⟨x, List.mem_cons_of_mem _ hx, h⟩

/-- A post leaves the entries of every other kind and source. -/
theorem postEntry_other {now : HeadTime} {k : EventKind} {c : EventSource} {v : Int} {es : List EventEntry}
    {e : EventEntry} (h : ¬(e.kind = k ∧ e.source = c)) : e ∈ postEntry now k c v es ↔ e ∈ es := by
  induction es with
  | nil =>
    simp only [postEntry, List.mem_singleton, List.not_mem_nil, iff_false]
    rintro rfl
    exact h ⟨rfl, rfl⟩
  | cons x xs ih =>
    unfold postEntry
    split
    · next hx =>
      simp only [List.mem_cons]
      constructor
      · rintro (rfl | hm)
        · exact absurd hx h
        · exact .inr hm
      · rintro (rfl | hm)
        · exact absurd hx h
        · exact .inr hm
    · simp only [List.mem_cons, ih]

/-- A post of another kind or source keeps a waiting event. -/
theorem Waits.post {now now' : HeadTime} {k k' : EventKind} {c c' : EventSource} {v v' : Int} {es : List EventEntry}
    (h : Waits now k c v es) (hne : ¬(k = k' ∧ c = c')) : Waits now k c v (postEntry now' k' c' v' es) := by
  obtain ⟨e, he, rfl, rfl, hv, ht⟩ := h
  exact ⟨e, (postEntry_other hne).mpr he, rfl, rfl, hv, ht⟩

/-- A post of another kind or source is none of this one. -/
theorem NonePosted.post {k k' : EventKind} {c c' : EventSource} {v' : Int} {now' : HeadTime}
    {es fs : List EventEntry} (h : NonePosted k c es fs) (hne : ¬(k = k' ∧ c = c')) :
    NonePosted k c es (postEntry now' k' c' v' fs) := by
  intro e hk hc
  rw [h e hk hc]
  refine (postEntry_other ?_).symm
  rintro ⟨rfl, rfl⟩
  exact hne ⟨hk.symm, hc.symm⟩

/-- Nothing was posted where the queue did not change. -/
theorem NonePosted.refl (k : EventKind) (c : EventSource) (es : List EventEntry) : NonePosted k c es es :=
  fun _ _ _ => Iff.rfl

/-- The kinds and sources of a queue after a post: those before, and the posted one where it was new. -/
theorem postEntry_keys (now : HeadTime) (k : EventKind) (c : EventSource) (v : Int) (es : List EventEntry) :
    (postEntry now k c v es).map (fun e => (e.kind, e.source))
      = if (k, c) ∈ es.map (fun e => (e.kind, e.source)) then es.map (fun e => (e.kind, e.source))
        else es.map (fun e => (e.kind, e.source)) ++ [(k, c)] := by
  induction es with
  | nil => rfl
  | cons e es ih =>
    by_cases h : e.kind = k ∧ e.source = c
    · obtain ⟨rfl, rfl⟩ := h
      simp [postEntry]
    · have h' : ¬((k, c) = (e.kind, e.source)) := by
        rintro ⟨rfl, rfl⟩
        exact h ⟨rfl, rfl⟩
      simp only [postEntry, h, if_false, List.map_cons, ih, List.mem_cons, h', false_or]
      split <;> simp

end Sys2Proof.Machine
end

