-- ==== Sys2Proof/Laws/SpecDrives.lean ====
section
/-! SUPPORT. What the operations of the drums and of the pump do, said once: ramp, update, trip, load level, feed hold. -/

namespace Sys2Proof.Machine

open Sys2Proof.Safety

/-! ### Drums -/

/-- The time since an earlier sample. -/
theorem elapsed_eq (before : Option HeadTime) (now : HeadTime) : elapsed before now = sinceLast now before := by
  cases before <;> rfl

/-- The trip history of a unit after a trip. -/
theorem historyAfterTrip_eq (now : HeadTime) (t : ProtectionParams) (h : List HeadTime) :
    historyAfterTrip now t h = tripHistory now t.tripWindow t.tripLimit h := rfl

/-- The ramp moves the commanded speed and its residue as R63 and R64 say, and nothing else. -/
theorem ramp_ramped (t : DrumParams) (target dt : Nat) (g : Governor) :
    ∃ speed residue, ramp t target dt g = { g with speed := speed, residue := residue }
      ∧ Ramped (rampRate t (decide (g.state = .run)) (changePending g) (decide (g.speed < target))) dt target g.speed
          g.residue speed residue := by
  unfold ramp
  by_cases h : g.speed = target
  · exact ⟨g.speed, 0, by simp [h], by unfold Ramped; omega⟩
  · simp only [h, if_false]
    generalize rampRate t (decide (g.state = .run)) (changePending g) (decide (g.speed < target)) = rate
    by_cases hr : g.speed < target <;> simp only [hr, decide_true, decide_false, Bool.false_eq_true, if_true, if_false]
    all_goals split
    all_goals exact ⟨_, _, rfl, by unfold Ramped; omega⟩

/-- The ramp never takes the commanded speed past the greater of itself and the target. -/
theorem Ramped.le_max {rate dt target speed residue speed' residue' : Nat}
    (h : Ramped rate dt target speed residue speed' residue') : speed' ≤ max speed target := by
  obtain ⟨h1, h2, h3⟩ := h
  rcases lt_trichotomy speed target with h | h | h
  · obtain ⟨a, b⟩ := h2 h
    by_cases hc : target ≤ speed + (rate * dt + residue) / 1000
    · obtain ⟨rfl, -⟩ := a hc; omega
    · obtain ⟨rfl, -⟩ := b (by omega); omega
  · obtain ⟨rfl, -⟩ := h1 h; omega
  · obtain ⟨a, b⟩ := h3 h
    by_cases hc : speed ≤ target + (rate * dt + residue) / 1000
    · obtain ⟨rfl, -⟩ := a hc; omega
    · obtain ⟨hb, -⟩ := b (by omega); omega

/-- The residue of a ramp stays below 1,000. -/
theorem Ramped.residue_lt {rate dt target speed residue speed' residue' : Nat}
    (h : Ramped rate dt target speed residue speed' residue') : residue' ≤ 999 := by
  obtain ⟨h1, h2, h3⟩ := h
  rcases lt_trichotomy speed target with h | h | h
  · obtain ⟨a, b⟩ := h2 h
    by_cases hc : target ≤ speed + (rate * dt + residue) / 1000
    · obtain ⟨-, rfl⟩ := a hc; omega
    · obtain ⟨-, rfl⟩ := b (by omega); omega
  · obtain ⟨-, rfl⟩ := h1 h; omega
  · obtain ⟨a, b⟩ := h3 h
    by_cases hc : speed ≤ target + (rate * dt + residue) / 1000
    · obtain ⟨-, rfl⟩ := a hc; omega
    · obtain ⟨-, rfl⟩ := b (by omega); omega

theorem integrate_eq (t : DrumParams) (duty : Nat) (e i : Int) : integrate t duty e i = trimAfter t duty e i := rfl

/-- The duty stage sets the integrator and the duty. -/
theorem dutyStage_eq (t : DrumTable) (d : Drum) (g : Governor) :
    dutyStage t d g
      = { g with
          integrator := trimAfter t.params g.duty ((g.speed : Int) - g.nMeas) g.integrator
          duty := dutyOf t d g.speed (trimAfter t.params g.duty ((g.speed : Int) - g.nMeas) g.integrator) } := rfl

/-- The rate of the ramp of an update. -/
theorem rampRate_eq (t : DrumParams) (composed : Nat) (g : Governor) :
    rampRate t (decide (g.state = .run)) (changePending g)
        (decide (g.speed < if g.state = .run ∧ changePending g = false then composed else 0))
      = if g.state = .run ∧ g.speed < composed ∧ g.requested = g.running then t.rampUp
        else if g.state = .run ∧ g.requested = g.running then t.rampDown
        else t.stopRate := by
  by_cases hq : g.requested = g.running <;> by_cases hs : g.state = .run <;> simp [rampRate, changePending, hq, hs]

/-- The standstill and duty stages of an update, from the governor `h` that the ramp left. -/
theorem directionAndDuty_eq (t : DrumTable) (d : Drum) (h : Governor) (hd : driving h = true) :
    (h.speed = 0 → h.state = .stopping → directionAndDuty t d h = enterOff h)
      ∧ (h.speed = 0 → h.state = .run → h.requested ≠ h.running →
          directionAndDuty t d h = dutyStage t d { h with running := h.requested, integrator := 0 })
      ∧ (h.speed ≠ 0 ∨ (h.state = .run ∧ h.requested = h.running) → directionAndDuty t d h = dutyStage t d h) := by
  refine ⟨?_, ?_, ?_⟩
  · intro h0 hs
    simp [directionAndDuty, h0, hs]
  · intro h0 hs hq
    simp [directionAndDuty, h0, hs, changePending, hq]
  · rintro (h0 | ⟨hs, hq⟩)
    · simp [directionAndDuty, h0]
    · simp [directionAndDuty, hs, changePending, hq]

/-- An update that takes no trip, in RUN or STOPPING. -/
theorem updateStages_updated (now : HeadTime) (t : DrumTable) (d : Drum) (composed : Nat) (g : Governor)
    (h : driving g = true) : Updated now t d composed g (updateStages now t d composed g) := by
  obtain ⟨speed, residue, he, hr⟩ :=
    ramp_ramped t.params (if g.state = .run ∧ changePending g = false then composed else 0)
      (elapsed g.prevUpdate now) { g with prevUpdate := some now }
  have hu : updateStages now t d composed g
      = directionAndDuty t d { g with prevUpdate := some now, speed := speed, residue := residue } := by
    unfold updateStages
    exact congrArg (directionAndDuty t d) he
  have hd := directionAndDuty_eq t d { g with prevUpdate := some now, speed := speed, residue := residue } h
  have hrate := rampRate_eq t.params composed g
  refine ⟨speed, residue, ?_, ?_, ?_, ?_⟩
  · have ht : (if g.state = .run ∧ g.requested = g.running then composed else 0)
        = if g.state = .run ∧ changePending g = false then composed else 0 := by
      simp [changePending]
    rw [ht, ← hrate, ← elapsed_eq]
    exact hr
  · intro h0 hs
    rw [hu, hd.1 h0 hs]
    rfl
  · intro h0 hs hq
    rw [hu, hd.2.1 h0 hs hq, dutyStage_eq]
    subst h0
    rfl
  · intro hc
    rw [hu, hd.2.2 hc, dutyStage_eq]

/-- Whether a trip locks out, read from the history it leaves. -/
theorem locksOut_afterTrip (now : HeadTime) (t : ProtectionParams) (permit : Bool) (p : Protection) :
    locksOut t (protectionAfterTrip now t permit p)
      = decide (t.tripLimit ≤ (tripHistory now t.tripWindow t.tripLimit p.history).length) := rfl

/-- A drum trip: what it leaves in the drum and in the event queue. -/
theorem tripDrum_tripped (d : Drum) (pressure : Nat) (s : State) :
    DrumTripped s d pressure (s.governor d) ((tripDrum d pressure s).governor d) s.rpu.events
      (tripDrum d pressure s).rpu.events := by
  unfold tripDrum DrumTripped
  simp only [locksOut_afterTrip]
  by_cases h : s.tst.active.drum.params.tripLimit
      ≤ (tripHistory s.headTime s.tst.active.drum.params.tripWindow s.tst.active.drum.params.tripLimit
          (s.governor d).prot.history).length
  all_goals
    refine ⟨?_, ?_⟩
    · rw [post_governor, State.setGovernor_governor]
      simp [h, drumProtection, protectionAfterTrip, historyAfterTrip_eq, tripPhase, after]
    · rw [post_events]
      simpa [h, tripEvent, drumProtection] using postEntry_posted _ _ _ _ _

/-- A drum sample, from the governor with its N_meas stored. -/
theorem drumSample_eq (d : Drum) (x : DrumSample) (s : State) (g : Governor)
    (h : g = { s.governor d with nMeas := measured x (s.governor d).running }) :
    drumSample d x s
      = if driving g = true then
          if s.tst.active.drum.params.pTrip < takenPressure x then
            tripDrum d (takenPressure x) (s.setGovernor d g)
          else s.setGovernor d (updateStages s.headTime s.tst.active.drum d (currentTarget d s) g)
        else s.setGovernor d g := by
  subst h
  unfold drumSample driving
  simp only [decide_eq_true_eq]

/-- The measured speed of a sample: its speed, limited, where it is sensed in the running direction, else 0. -/
theorem measured_eq (x : DrumSample) (running : Direction) : measured x running = sensedSpeed x running := by
  have h0 : x.direction = 0#8 ↔ x.direction.toNat = 0 :=
    ⟨fun h => by rw [h]; rfl, fun h => BitVec.eq_of_toNat_eq h⟩
  have h1 : x.direction = 1#8 ↔ x.direction.toNat = 1 :=
    ⟨fun h => by rw [h]; rfl, fun h => BitVec.eq_of_toNat_eq h⟩
  simp only [h0, h1, measured, sensedSpeed]
  generalize x.direction.toNat = n
  rcases n with _ | _ | n <;> cases running <;> simp [directionOf]

/-! ### The pump, the account, the level and the feed hold -/

/-- A pump trip. -/
theorem tripPump_tripped (cause : PumpCause) (s : State) : PumpTripped s (pumpCauseCode cause) (tripPump cause s) := by
  unfold tripPump PumpTripped
  simp only [locksOut_afterTrip]
  by_cases h : s.tst.active.slurry.pump.tripLimit
      ≤ (tripHistory s.headTime s.tst.active.slurry.pump.tripWindow s.tst.active.slurry.pump.tripLimit
          s.sru.prot.history).length
  all_goals
    refine ⟨?_, ?_⟩
    · simp [h, post_eq, pumpProtection, protectionAfterTrip, historyAfterTrip_eq, tripPhase, after, enterPumpOff,
        State.setSru]
    · rw [post_events]
      simpa [h, tripEvent, pumpProtection] using postEntry_posted _ _ _ _ _

/-- The feed-hold test leaves the load level and makes the hold as R111 and R113 say. -/
theorem feedHoldTest_tested (s : State) :
    HoldTested s s.sru.level (feedHoldTest s).sru.held (feedHoldTest s).sru.refreshDeadline
      (feedHoldTest s).ulp.feedHold := by
  unfold HoldTested feedHoldTest
  cases hh : s.sru.held <;> by_cases hl : s.tst.active.slurry.levels.holdLevel ≤ s.sru.level
  · simp [holdFeed, makeFeedHold, hl, after, Nat.not_lt.mpr hl]
  · simp [hl, hh]
  · simp [hl, hh, Nat.not_lt.mpr hl]
  · have := Nat.not_le.mp hl
    simp [releaseFeed, makeFeedHold, hl, this]

/-- The feed-hold test changes the hold and its refresh in the unit. -/
theorem feedHoldTest_sru (s : State) :
    (feedHoldTest s).sru
      = { s.sru with
          held := (feedHoldTest s).sru.held
          refreshDeadline := (feedHoldTest s).sru.refreshDeadline } := by
  unfold feedHoldTest
  simp only
  repeat' split
  all_goals rfl

/-- The feed-hold test changes the FEED HOLD slot of the port. -/
theorem feedHoldTest_ulp (s : State) :
    (feedHoldTest s).ulp = { s.ulp with feedHold := (feedHoldTest s).ulp.feedHold } := by
  unfold feedHoldTest
  simp only
  repeat' split
  all_goals rfl

/-- The level stage changes the level. -/
theorem levelStage_sru (s : State) :
    (levelStage s).sru
      = { s.sru with level := levelAfter s.tst.active.slurry.levels s.sru.account s.sru.level } := by
  unfold levelStage
  simp only
  split <;> simp

/-- The level stage posts LEVEL when the level changed. -/
theorem levelStage_rpu (s : State) :
    (levelStage s).rpu
      = { s.rpu with
          events :=
            if levelAfter s.tst.active.slurry.levels s.sru.account s.sru.level = s.sru.level then s.rpu.events
            else
              postEntry s.headTime .level .sru (levelAfter s.tst.active.slurry.levels s.sru.account s.sru.level)
                s.rpu.events } := by
  unfold levelStage
  simp only
  split
  · simp
  · rw [post_rpu]; simp

/-- The account after an update by one term, limited (R108). -/
def accountAfter (cut returned : Nat) (s : State) : Nat :=
  min (s.sru.account + cut - returned) s.tst.active.slurry.ground.accountMax

/-- The level after an account update. -/
def updatedLevel (cut returned : Nat) (s : State) : Nat :=
  levelAfter s.tst.active.slurry.levels (accountAfter cut returned s) s.sru.level

/-- An account update in the unit: account, level, hold and refresh. -/
theorem accountUpdate_sru (cut returned : Nat) (s : State) :
    (accountUpdate cut returned s).sru
      = { s.sru with
          account := accountAfter cut returned s
          level := updatedLevel cut returned s
          held := (accountUpdate cut returned s).sru.held
          refreshDeadline := (accountUpdate cut returned s).sru.refreshDeadline } := by
  unfold accountUpdate
  rw [feedHoldTest_sru]
  simp [levelStage_sru, updatedLevel, accountAfter]

/-- An account update in the Report Unit: LEVEL when the level changed. -/
theorem accountUpdate_rpu (cut returned : Nat) (s : State) :
    (accountUpdate cut returned s).rpu
      = { s.rpu with
          events :=
            if updatedLevel cut returned s = s.sru.level then s.rpu.events
            else postEntry s.headTime .level .sru (updatedLevel cut returned s) s.rpu.events } := by
  unfold accountUpdate
  simp only [feedHoldTest_rpu, levelStage_rpu]
  rfl

/-- An account update in the port: the FEED HOLD slot. -/
theorem accountUpdate_ulp (cut returned : Nat) (s : State) :
    (accountUpdate cut returned s).ulp
      = { s.ulp with feedHold := (accountUpdate cut returned s).ulp.feedHold } := by
  unfold accountUpdate
  rw [feedHoldTest_ulp]
  simp

/-- The feed hold after an account update. -/
theorem accountUpdate_tested (cut returned : Nat) (s : State) :
    HoldTested s (updatedLevel cut returned s) (accountUpdate cut returned s).sru.held
      (accountUpdate cut returned s).sru.refreshDeadline (accountUpdate cut returned s).ulp.feedHold := by
  have h := feedHoldTest_tested
    (levelStage (s.setSru { s.sru with account := min (s.sru.account + cut - returned) s.tst.active.slurry.ground.accountMax }))
  unfold HoldTested at h ⊢
  simpa [levelStage_sru, updatedLevel, accountAfter, accountUpdate] using h

end Sys2Proof.Machine
end

