-- ==== Sys2Proof/Laws/SpecSteering.lean ====
section
/-! SUPPORT. What the operations of the planner and the positioner do, said once: a decision, a valve turned off, an
evaluation, a handed target change, the stop of every moving plate. -/

namespace Sys2Proof.Machine

open Sys2Proof.Safety

/-! ### Plates -/

theorem plateMotion_isSome (p : Plate) : (plateMotion p).isSome = moving p := by
  unfold plateMotion moving
  cases p.state <;> simp

theorem moving_iff {p : Plate} : moving p = true ↔ p.state = .extend ∨ p.state = .retract := by
  simp [moving]

/-- The bar after EXTEND is left. -/
theorem barAfter_extend (now : HeadTime) (dwell : Nat) (p : Plate) (h : p.state = .extend) :
    barAfter now dwell .extend p.bar
      = if dwell = 0 then barKept p else some ⟨.retract, now + BitVec.ofNat 32 dwell⟩ := by
  cases hb : p.bar <;> simp [barAfter, barKept, h, hb, opposite, after, Option.filter]

/-- The bar after RETRACT is left. -/
theorem barAfter_retract (now : HeadTime) (dwell : Nat) (p : Plate) (h : p.state = .retract) :
    barAfter now dwell .retract p.bar
      = if dwell = 0 then barKept p else some ⟨.extend, now + BitVec.ofNat 32 dwell⟩ := by
  cases hb : p.bar <;> simp [barAfter, barKept, h, hb, opposite, after, Option.filter]

/-- A moving plate whose valve is turned off is stopped, and its latch stays. -/
theorem turnOff_stopped (now : HeadTime) (dwell : Nat) (dest : PlateState) (p : Plate) (h : moving p = true) :
    Stopped now dwell dest p (turnOff now dwell dest p) ∧ (turnOff now dwell dest p).stuckLatch = p.stuckLatch := by
  rcases moving_iff.mp h with h | h <;> simp [turnOff, plateMotion, h, Stopped, barAfter_extend, barAfter_retract]

/-- A plate whose valve is off changes its state only. -/
theorem turnOff_still (now : HeadTime) (dwell : Nat) (dest : PlateState) (p : Plate) (h : moving p = false) :
    turnOff now dwell dest p = { p with state := dest } := by
  unfold turnOff
  have : plateMotion p = none := by
    have := plateMotion_isSome p
    rw [h] at this
    simpa using this
  rw [this]

/-- The wanted motion, in the naturals and in the integers. -/
theorem wanted_wants (db pos target : Nat) : wanted db pos target = wants pos target db := by
  unfold wanted wants
  repeat' split
  all_goals first | rfl | omega

/-- A decision is the table of R120. -/
theorem decidePlate_decided (now : HeadTime) (t : SteeringParams) (target : Nat) (p : Plate) :
    Decided now t target p (decidePlate now t target p) := by
  obtain ⟨state, position, stroke, bar, latch⟩ := p
  refine ⟨?_, ?_, ?_⟩
  · rintro (h | h) <;> simp_all [decidePlate]
  · intro hp
    simp only at hp
    subst hp
    refine ⟨?_, ?_⟩
    · intro h
      simp_all [decidePlate]
    · intro h
      have := turnOff_stopped now t.reversalDwell .hold ⟨state, none, stroke, bar, latch⟩ h
      rcases moving_iff.mp h with h' | h' <;> simp only at h' <;> subst h' <;> simpa [decidePlate] using this
  · intro pos hp
    simp only at hp
    subst hp
    refine ⟨?_, ?_⟩
    · intro h
      simp only at h
      subst h
      refine ⟨?_, ?_⟩
      · intro hw
        simp [decidePlate, wanted_wants, hw]
      · intro m hw
        refine ⟨?_, ?_⟩
        · intro hb
          obtain ⟨b, hb, hm⟩ := Option.map_eq_some_iff.mp hb
          simp only at hb
          subst hb
          simp [decidePlate, wanted_wants, hw, barred, hm]
        · intro hb
          have : barred m ⟨.hold, some pos, stroke, bar, latch⟩ = false := by
            cases bar with
            | none => rfl
            | some b => simpa [barred] using hb
          simp only [decidePlate, wanted_wants, hw, this]
          cases m <;> simp [startMotion, motionState, after]
    · intro h
      have hs := turnOff_stopped now t.reversalDwell .hold ⟨state, some pos, stroke, bar, latch⟩ h
      rcases moving_iff.mp h with h' | h' <;> simp only at h' <;> subst h' <;> refine ⟨?_, ?_, ?_⟩
      · intro hw; simp_all [decidePlate, wanted_wants, plateMotion]
      · intro hw; simpa [decidePlate, wanted_wants, hw] using hs
      · intro hw
        refine ⟨?_, ?_⟩
        · intro hd
          simp only [reduceIte] at hw
          simpa [decidePlate, wanted_wants, hw, plateMotion, hd] using hs
        · intro hd
          simp only [reduceIte] at hw
          have hk := barAfter_extend now 0 ⟨.extend, some pos, stroke, bar, latch⟩ rfl
          simp only [reduceIte] at hk
          simp [decidePlate, wanted_wants, hw, plateMotion, hd, startMotion, turnOff, motionState, after, hk]
      · intro hw; simp_all [decidePlate, wanted_wants, plateMotion]
      · intro hw; simpa [decidePlate, wanted_wants, hw] using hs
      · intro hw
        have hw : wants pos target t.deadband = some .extend := by simpa using hw
        refine ⟨?_, ?_⟩
        · intro hd
          simpa [decidePlate, wanted_wants, hw, plateMotion, hd] using hs
        · intro hd
          have hk := barAfter_retract now 0 ⟨.retract, some pos, stroke, bar, latch⟩ rfl
          simp only [reduceIte] at hk
          simp [decidePlate, wanted_wants, hw, plateMotion, hd, startMotion, turnOff, motionState, after, hk]

/-- The target of a plate: that of the stored mode while the link is ONLINE, and none else. -/
theorem plateTarget_eq (s : State) (id : PlateId) :
    plateTarget s id
      = if s.ulp.link = .online then some (targetOf s.pps.mode s.spl.targets s.pps.manualTargets id) else none := by
  unfold plateTarget effectiveMode online targetOf
  by_cases h : s.ulp.link = .online <;> cases s.pps.mode <;> simp [h]

/-- While the link is ONLINE a decision is made toward the target of the stored mode. -/
theorem decideFor_online (s : State) (id : PlateId) (p : Plate) (h : s.ulp.link = .online) :
    decideFor s id p
      = decidePlate s.headTime s.tst.active.steering.params
          (targetOf s.pps.mode s.spl.targets s.pps.manualTargets id) p := by
  simp [decideFor, plateTarget_eq, h]

/-- While the link is not ONLINE no decision is made. -/
theorem decideFor_frozen (s : State) (id : PlateId) (p : Plate) (h : s.ulp.link ≠ .online) : decideFor s id p = p := by
  simp [decideFor, plateTarget_eq, h]

/-- A decision pass in ONLINE is a decision for each plate. -/
theorem decisionPass_decided (s : State) (h : s.ulp.link = .online) (id : PlateId) :
    Decided s.headTime s.tst.active.steering.params (targetOf s.pps.mode s.spl.targets s.pps.manualTargets id)
      (s.pps.plates.get id) ((decisionPass s).pps.plates.get id) := by
  have : (decisionPass s).pps.plates.get id = decideFor s id (s.pps.plates.get id) := by
    simp [decisionPass, setPlates]
  rw [this, decideFor_online s id _ h]
  exact decidePlate_decided _ _ _ _

/-- A decision pass changes the plates only. -/
theorem decisionPass_eq (s : State) :
    decisionPass s = { s with pps := { s.pps with plates := (decisionPass s).pps.plates } } := rfl

/-- The stop of the moving plates. -/
theorem stopMoving_spec (s : State) (id : PlateId) :
    (moving (s.pps.plates.get id) = true →
        Stopped s.headTime s.tst.active.steering.params.reversalDwell .hold (s.pps.plates.get id)
            ((stopMoving s s.pps.plates).get id)
          ∧ ((stopMoving s s.pps.plates).get id).stuckLatch = (s.pps.plates.get id).stuckLatch)
      ∧ (moving (s.pps.plates.get id) = false → (stopMoving s s.pps.plates).get id = s.pps.plates.get id) := by
  simp only [stopMoving, Quad.get_mapPlates, plateMotion_isSome]
  refine ⟨?_, ?_⟩
  · intro h
    simpa [h] using turnOff_stopped s.headTime s.tst.active.steering.params.reversalDwell .hold _ h
  · intro h
    simp [h]

/-! ### Evaluations -/

/-- An evaluation is the table of R32. -/
theorem evaluated_spec (t : Tables) (v : Vtr) (mode : EffectiveMode) (p : Spl) :
    Evaluated t.steering mode v.state (steeringErrors t v) p (evaluated t v mode p) := by
  refine ⟨?_, ?_, ?_⟩
  · rintro rfl h
    simp [evaluated, h]
  · rintro rfl
    simp [evaluated]
  · rintro (rfl | rfl | ⟨rfl, h⟩)
    · simp [evaluated]
    · simp [evaluated]
    · unfold evaluated
      split <;> simp_all

/-- What an evaluation leaves in the planner. -/
theorem evaluate_spl (s : State) :
    Evaluated s.tst.active.steering (effectiveMode s) s.vtr.state (steeringErrors s.tst.active s.vtr) s.spl
      (evaluate s).spl := evaluated_spec _ _ _ _

/-- An evaluation changes the planner only. -/
theorem evaluate_eq (s : State) : evaluate s = { s with spl := (evaluate s).spl } := rfl

/-- An evaluation that hands its target change evaluates as one that does not. -/
theorem evaluateAndHand_spl (s : State) : (evaluateAndHand s).spl = (evaluate s).spl := by
  unfold evaluateAndHand handTargets
  split <;> rfl

/-- The plates after an evaluation that hands its target change. -/
theorem evaluateAndHand_handed (s : State) : Handed s (evaluateAndHand s).spl.targets (evaluateAndHand s).pps.plates := by
  rw [evaluateAndHand_spl]
  have hm : effectiveMode (evaluate s) = effectiveMode s := rfl
  unfold evaluateAndHand handTargets
  rw [hm]
  refine ⟨?_, ?_⟩
  · intro ha hne id
    have ho : s.ulp.link = .online := by
      by_contra h
      simp [effectiveMode, online, h] at ha
    have hmode : s.pps.mode = .auto := by
      cases hq : s.pps.mode <;> simp [effectiveMode, online, ho, hq] at ha ⊢
    rw [if_pos ⟨hne, ha⟩]
    have := decisionPass_decided (evaluate s) (by simpa using ho) id
    simpa [hmode, targetOf] using this
  · intro h
    rw [if_neg]
    · rfl
    · rintro ⟨h1, h2⟩
      rcases h with h | h
      · exact h h2
      · exact h1 h

/-- An evaluation that hands its target change changes the planner and the plates only. -/
theorem evaluateAndHand_eq (s : State) :
    evaluateAndHand s
      = { s with
          spl := (evaluateAndHand s).spl
          pps := { s.pps with plates := (evaluateAndHand s).pps.plates } } := by
  unfold evaluateAndHand handTargets
  split <;> rfl

end Sys2Proof.Machine
end

