-- ==== Sys2Proof/Laws/SpecBus.lean ====
section
/-! SUPPORT. What the operations of the bus master do, said once: the arbiter, the end of a slot transaction, the
telemetry record. -/

namespace Sys2Proof.Machine

open Sys2Proof.Safety

/-! ### The arbiter -/

theorem overdue_eq (now : HeadTime) (x : Slot) :
    overdue now x = if reached x.due now = true then some (interval x.due now) else none := rfl

/-- With no slot due the search keeps its choice. -/
theorem earliestDue_none (now : HeadTime) (xs : List Slot) (num : Nat) (best : Option (Nat × Nat))
    (h : ∀ x ∈ xs, reached x.due now = false) : earliestDue now num best xs = best := by
  induction xs generalizing num with
  | nil => rfl
  | cons x xs ih =>
    have hx : overdue now x = none := by simp [overdue_eq, h x List.mem_cons_self]
    unfold earliestDue
    rw [hx]
    exact ih (num + 1) (fun y hy => h y (List.mem_cons_of_mem _ hy))

/-- The search keeps a choice that every later due slot is at most as overdue as. -/
theorem earliestDue_keeps (now : HeadTime) (xs : List Slot) (num n e : Nat)
    (h : ∀ x ∈ xs, reached x.due now = true → interval x.due now ≤ e) :
    earliestDue now num (some (n, e)) xs = some (n, e) := by
  induction xs generalizing num with
  | nil => rfl
  | cons x xs ih =>
    have hr := fun y hy => h y (List.mem_cons_of_mem x hy)
    unfold earliestDue
    by_cases hd : reached x.due now = true
    · have := h x List.mem_cons_self hd
      simp only [overdue_eq, hd, if_true, if_neg (Nat.not_lt.mpr this)]
      exact ih (num + 1) hr
    · simp only [overdue_eq, hd]
      exact ih (num + 1) hr

/-- The search chooses the slot that is due the longest, the first of those. -/
theorem earliestDue_finds (now : HeadTime) (xs : List Slot) (num : Nat) (best : Option (Nat × Nat)) (k : Nat) (x : Slot)
    (hk : xs[k]? = some x) (hd : reached x.due now = true)
    (hb : ∀ n e, best = some (n, e) → e < interval x.due now)
    (h : ∀ (j : Nat) (y : Slot), xs[j]? = some y → reached y.due now = true →
        interval y.due now ≤ interval x.due now ∧ (interval y.due now = interval x.due now → k ≤ j)) :
    earliestDue now num best xs = some (num + k, interval x.due now) := by
  induction xs generalizing num best k with
  | nil => simp at hk
  | cons y ys ih =>
    cases k with
    | zero =>
      have hy : y = x := by simpa using hk
      subst hy
      have hle : ∀ z ∈ ys, reached z.due now = true → interval z.due now ≤ interval y.due now := by
        intro z hz hzd
        obtain ⟨j, hj, rfl⟩ := List.mem_iff_getElem.mp hz
        exact (h (j + 1) ys[j] (by simp [hj]) hzd).1
      unfold earliestDue
      cases best with
      | none =>
        simp only [overdue_eq, hd, if_true]
        simpa using earliestDue_keeps now ys (num + 1) num _ hle
      | some b =>
        obtain ⟨n, e⟩ := b
        simp only [overdue_eq, hd, if_true, if_pos (hb n e rfl)]
        simpa using earliestDue_keeps now ys (num + 1) num _ hle
    | succ k =>
      have hk' : ys[k]? = some x := by simpa using hk
      have hj' : ∀ (j : Nat) (z : Slot), ys[j]? = some z → reached z.due now = true →
          interval z.due now ≤ interval x.due now ∧ (interval z.due now = interval x.due now → k ≤ j) := by
        intro j z hz hzd
        obtain ⟨a, b⟩ := h (j + 1) z (by simpa using hz) hzd
        exact ⟨a, fun he => by have := b he; omega⟩
      have hfin : ∀ best', (∀ n e, best' = some (n, e) → e < interval x.due now) →
          earliestDue now (num + 1) best' ys = some (num + (k + 1), interval x.due now) := by
        intro best' hb'
        have := ih (num + 1) best' k hk' hb' hj'
        rw [this]
        congr 2
        omega
      unfold earliestDue
      by_cases hyd : reached y.due now = true
      · obtain ⟨hle, heq⟩ := h 0 y (by simp) hyd
        have hlt : interval y.due now < interval x.due now := by
          rcases Nat.lt_or_ge (interval y.due now) (interval x.due now) with h' | h'
          · exact h'
          · have := heq (Nat.le_antisymm hle h')
            omega
        cases best with
        | none =>
          simp only [overdue_eq, hyd, if_true]
          exact hfin _ (by rintro n e ⟨rfl, rfl⟩; exact hlt)
        | some b =>
          obtain ⟨n, e⟩ := b
          simp only [overdue_eq, hyd, if_true]
          apply hfin
          intro n' e' he
          split at he
          · obtain ⟨rfl, rfl⟩ := he; exact hlt
          · obtain ⟨rfl, rfl⟩ := he; exact hb n e rfl
      · have hn : overdue now y = none := by simp [overdue_eq, hyd]
        rw [hn]
        exact hfin best hb

/-- The arbiter, asked with the bus idle. -/
theorem arbitrate_granted (s : State) (h : s.sbm.bus = .idle) : Granted s s.sbm (arbitrate s).sbm := by
  have hsome : ∀ tx, granted s = some tx → (arbitrate s).sbm = { s.sbm with bus := .request tx } := by
    intro tx ht
    unfold arbitrate
    rw [h, ht]
    rfl
  have hnone : granted s = none → (arbitrate s).sbm = s.sbm := by
    intro ht
    unfold arbitrate
    rw [h, ht]
  refine ⟨?_, ?_, ?_, ?_⟩
  · cases hg : granted s with
    | none => rw [hnone hg]
    | some tx => rw [hsome tx hg]
  · intro a ha
    rw [hsome (accessTransaction s.tst.active.poll a) (by simp [granted, ha])]
    rfl
  · intro ha hd
    rw [hnone, h]
    simp [granted, ha, nextSlot, earliestDue_none _ _ _ _ hd]
  · intro ha k x r hk hr hd hj
    rw [hsome (slotTransaction s.tst.active.poll (k + 1) r)]
    · rfl
    · have := earliestDue_finds s.headTime s.sbm.slots 1 none k x hk hd (by simp) hj
      have hn : nextSlot s = some (k + 1) := by
        unfold nextSlot
        rw [this]
        simp [Nat.add_comm]
      simp [granted, ha, hn, hr]

/-- On a bus in use the arbiter does nothing. -/
theorem arbitrate_busy (s : State) (h : s.sbm.bus ≠ .idle) : arbitrate s = s := by
  unfold arbitrate
  cases hb : s.sbm.bus <;> simp_all

/-- The arbiter changes the bus master only. -/
theorem arbitrate_eq (s : State) : arbitrate s = { s with sbm := (arbitrate s).sbm } := by
  unfold arbitrate
  split <;> rfl

/-! ### The telemetry record -/

/-- A record replaces the pending one of its slot, or joins the end. -/
theorem placeRecord_spec (r : TelemetryRecord) (q : List TelemetryRecord) :
    ((∀ x ∈ q, x.slot ≠ r.slot) ∧ placeRecord r q = q ++ [r])
      ∨ ∃ (front back : List TelemetryRecord) (old : TelemetryRecord),
          q = front ++ old :: back ∧ (∀ x ∈ front, x.slot ≠ r.slot) ∧ old.slot = r.slot
            ∧ placeRecord r q = front ++ r :: back := by
  induction q with
  | nil => exact .inl ⟨by simp, rfl⟩
  | cons x xs ih =>
    unfold placeRecord
    by_cases h : x.slot = r.slot
    · rw [if_pos h]
      exact .inr ⟨[], xs, x, rfl, by simp, h, rfl⟩
    · rw [if_neg h]
      obtain ⟨hn, he⟩ | ⟨front, back, old, hq, hf, ho, he⟩ := ih
      · refine .inl ⟨?_, by rw [he]; rfl⟩
        intro y hy
        rcases List.mem_cons.mp hy with rfl | hy
        · exact h
        · exact hn y hy
      · refine .inr ⟨x :: front, back, old, by rw [hq]; rfl, ?_, ho, by rw [he]; rfl⟩
        intro y hy
        rcases List.mem_cons.mp hy with rfl | hy
        · exact h
        · exact hf y hy

/-- The record of a slot transaction. -/
theorem relay_relayed (s : State) (num : Nat) (role : Role) (relayBad noRelay : Bool) (tags : TagSet)
    (payload : List Byte) :
    Relayed s num role relayBad noRelay tags
      (if tags = noTags ∨ tags.nodeFault = true then some payload else none) s.ulp
      (relay num role relayBad noRelay tags payload s).ulp := by
  unfold Relayed relay isGood
  by_cases h : (!noRelay && (decide (tags = noTags) || relayBad) && s.tst.active.link.telemetry) = true
  · rw [if_pos h]
    simp only [Bool.and_eq_true, Bool.not_eq_true', Bool.or_eq_true, decide_eq_true_eq] at h
    obtain ⟨⟨h1, h2⟩, h3⟩ := h
    refine ⟨rfl, ?_, ?_⟩
    · rintro (h | ⟨ha, hb⟩ | h)
      · simp [h1] at h
      · rcases h2 with h2 | h2
        · exact absurd h2 ha
        · simp [hb] at h2
      · simp [h3] at h
    · intro _ _ _
      simpa using placeRecord_spec ⟨num, role, s.headTime, tags,
        if tags = noTags ∨ tags.nodeFault = true then some payload else none⟩ s.ulp.telemetry
  · rw [if_neg h]
    refine ⟨rfl, fun _ => rfl, ?_⟩
    intro h1 h2 h3
    exact absurd (by simp [h1, h2, h3]) h

/-- The record of a slot transaction is placed in the port only. -/
theorem relay_eq (num : Nat) (role : Role) (relayBad noRelay : Bool) (tags : TagSet) (payload : List Byte) (s : State) :
    relay num role relayBad noRelay tags payload s
      = { s with ulp := (relay num role relayBad noRelay tags payload s).ulp } := by
  unfold relay
  split <;> rfl

/-! ### The slots -/

theorem nextDue_eq (now due : HeadTime) (period : Nat) : nextDue now period due = dueAfter now due period := rfl

/-- A slot changed in place. -/
theorem modify_set (f : Slot → Slot) (xs : List Slot) (k : Nat) (x : Slot) (h : xs[k]? = some x) :
    xs.modify k f = xs.set k (f x) := by
  apply List.ext_getElem?
  intro i
  rw [List.getElem?_modify, List.getElem?_set]
  by_cases hi : k = i
  · subst hi
    obtain ⟨hl, rfl⟩ := List.getElem?_eq_some_iff.mp h
    simp [hl]
  · simp [hi]

/-- The slot of a number from 1 on. -/
theorem slotAt_eq (s : State) (num : Nat) (h : 1 ≤ num) : slotAt s num = s.sbm.slots[num - 1]? := by
  unfold slotAt
  rw [if_neg (by omega)]

/-- The end of a good slot transaction, before the sample is delivered. -/
theorem setDue_slotGood (s : State) (num address : Nat) (x : Slot) (row : PollRow) (h : 1 ≤ num)
    (hx : s.sbm.slots[num - 1]? = some x) (hr : s.tst.active.poll.rows[num - 1]? = some row) :
    setDue num (slotGood num address s)
      = { s with
          sbm :=
            { s.sbm with
              slots := s.sbm.slots.set (num - 1) ⟨(dueAfter s.headTime x.due row.period).1, 0, .alive⟩ }
          ulp := withOverrun (dueAfter s.headTime x.due row.period).2 s.ulp
          rpu :=
            { s.rpu with
              events :=
                if x.node = .lost then postEntry s.headTime .nodeRestored (.slot num) address s.rpu.events
                else s.rpu.events } } := by
  have hg : slotGood num address s
      = { s with
          sbm := { s.sbm with slots := s.sbm.slots.set (num - 1) ⟨x.due, 0, .alive⟩ }
          rpu :=
            { s.rpu with
              events :=
                if x.node = .lost then postEntry s.headTime .nodeRestored (.slot num) address s.rpu.events
                else s.rpu.events } } := by
    unfold slotGood
    simp only [slotAt_eq _ _ h, hx, Option.map_some, Option.some.injEq, post_eq]
    have hm := modify_set (fun y => { y with failures := 0, node := .alive }) _ _ _ hx
    by_cases hn : x.node = .lost <;> simp [hn, onSlot, State.setSbm, hm]
  have hl : num - 1 < s.sbm.slots.length := (List.getElem?_eq_some_iff.mp hx).1
  rw [hg]
  unfold setDue
  simp only [slotAt_eq _ _ h, hr]
  rw [List.getElem?_set_self hl]
  simp only [latchOverrun, onSlot, nextDue_eq]
  have hm := modify_set (fun y : Slot => { y with due := (dueAfter s.headTime x.due row.period).1 })
    (s.sbm.slots.set (num - 1) ⟨x.due, 0, .alive⟩) (num - 1) ⟨x.due, 0, .alive⟩ (List.getElem?_set_self hl)
  rw [hm]
  simp only [List.set_set]
  unfold withOverrun
  cases (dueAfter s.headTime x.due row.period).2 <;> simp [State.setSbm, State.setUlp]

/-- The state in which the consumer of a good sample takes it: the bus idle, the slot served, its overrun latched, and
NODE_RESTORED posted when the node was LOST. -/
def servedState (s : State) (num address : Nat) (x : Slot) (row : PollRow) : State :=
  { s with
    sbm := slotServedGood s num x row
    ulp := withOverrun (dueAfter s.headTime x.due row.period).2 s.ulp
    rpu :=
      { s.rpu with
        events :=
          if x.node = .lost then postEntry s.headTime .nodeRestored (.slot num) address s.rpu.events
          else s.rpu.events } }

/-- A good sample of a counted slot: the slot is served, the consumer takes the sample, with the notice of a node that
was not ALIVE, the record is relayed, and the arbiter is asked. -/
theorem receiveResponse_good {s : State} {chars : List BusChar} {num : Nat} {role : Role} {relayBad noRelay : Bool}
    {payload : List Byte} {x : Slot} {row : PollRow}
    (h : SampleArrives s chars num role relayBad noRelay payload x row) :
    ∃ tx deadline, s.sbm.bus = .response tx deadline
      ∧ receiveResponse chars s
          = arbitrate
              (relay num role relayBad noRelay noTags payload
                (if x.node = .alive then deliverSample role payload (servedState s num tx.address x row)
                  else deliverWithNotice role payload (servedState s num tx.address x row))) := by
  obtain ⟨tx, deadline, r, hb, hs, hg, ht, hp, h1, hx, hr⟩ := h
  refine ⟨tx, deadline, hb, ?_⟩
  have hgood : isGood noTags = true := rfl
  have he := setDue_slotGood (s.setSbm { s.sbm with bus := .idle }) num tx.address x row h1 hx hr
  have hs' : setDue num (slotGood num tx.address (s.setSbm { s.sbm with bus := .idle }))
      = servedState s num tx.address x row := by
    rw [he]
    rfl
  unfold receiveResponse
  simp only [hb, hg, endTransaction, hs, endSlot, endLiveSlot, ht, hp, hgood, if_true, hs']
  have ha : (slotAt (s.setSbm { s.sbm with bus := .idle }) num).map (fun x => x.node) = some x.node := by
    rw [slotAt_eq _ _ h1]
    simp [hx]
  rw [ha]
  by_cases hn : x.node = .alive <;> simp [hn]

/-- A good sample of a slot of a replaced Poll Table: its consumer takes it without a notice, the record is relayed, and the
arbiter is asked. -/
theorem receiveResponse_replaced {s : State} {chars : List BusChar} {tx : Transaction} {deadline : HeadTime} {r : Response}
    {num : Nat} {role : Role} {relayBad noRelay : Bool} (hb : s.sbm.bus = .response tx deadline)
    (hs : tx.serving = .slot num role relayBad noRelay true) (hg : gatherResponse chars = some r)
    (ht : responseTags tx r = noTags) :
    receiveResponse chars s
      = arbitrate
          (relay num role relayBad noRelay noTags r.payload
            (deliverSample role r.payload (s.setSbm { s.sbm with bus := .idle }))) := by
  unfold receiveResponse
  simp only [hb, hg, endTransaction, hs, endSlot, ht, isGood, if_true, decide_true]

/-- A sample that comes to its consumer: the consumer takes it in a state that differs from the one before in the bus
master, idle, and in the port's latches, with NODE_RESTORED posted for a node that was LOST; then the record is relayed and
the arbiter asked. -/
theorem receiveResponse_comes {s : State} {chars : List BusChar} {role : Role} {payload : List Byte} {told : Bool}
    {posted : List EventEntry} (h : SampleComes s chars role payload told posted) :
    ∃ (num : Nat) (relayBad noRelay late : Bool) (b : Sbm) (c : State),
      c = { s with sbm := b, ulp := withOverrun late s.ulp, rpu := { s.rpu with events := posted } }
        ∧ b.bus = .idle ∧ b.access = s.sbm.access
        ∧ receiveResponse chars s
            = arbitrate
                (relay num role relayBad noRelay noTags payload
                  (if told then deliverWithNotice role payload c else deliverSample role payload c)) := by
  obtain ⟨num, relayBad, noRelay, x, row, h, htold, hkeep, hpost⟩
    | ⟨rfl, rfl, tx, deadline, r, num, relayBad, noRelay, hb, hs, hg, ht, hp⟩ := h
  · obtain ⟨tx, deadline, hb, he⟩ := receiveResponse_good h
    have hev : posted
        = if x.node = .lost then postEntry s.headTime .nodeRestored (.slot num) tx.address s.rpu.events
          else s.rpu.events := by
      by_cases hl : x.node = .lost
      · obtain ⟨tx', deadline', hb', hp'⟩ := hpost hl
        rw [hb] at hb'
        cases hb'
        rw [if_pos hl]
        exact posted_eq hp'
      · rw [if_neg hl]
        exact hkeep hl
    have hc : servedState s num tx.address x row
        = { s with
            sbm := slotServedGood s num x row
            ulp := withOverrun (dueAfter s.headTime x.due row.period).2 s.ulp
            rpu := { s.rpu with events := posted } } := by
      rw [hev]
      rfl
    refine ⟨num, relayBad, noRelay, (dueAfter s.headTime x.due row.period).2, slotServedGood s num x row, _, rfl, rfl, rfl,
      ?_⟩
    rw [he, hc]
    cases told
    · have : x.node = .alive := by
        by_contra hn
        exact absurd (htold.mpr hn) (by simp)
      simp only [this, if_true, Bool.false_eq_true, if_false]
    · simp only [htold.mp rfl, if_true, if_false]
  · refine ⟨num, relayBad, noRelay, false, { s.sbm with bus := .idle }, _, rfl, rfl, rfl, ?_⟩
    rw [receiveResponse_replaced hb hs hg ht, hp]
    simp [withOverrun, State.setSbm]

/-- What the end of a good slot transaction leaves, from what the consumer left: the record, and the granted bus. -/
theorem arbitrate_relay (num : Nat) (role : Role) (relayBad noRelay : Bool) (payload : List Byte) (c : State)
    (h : c.sbm.bus = .idle) :
    Granted c c.sbm (arbitrate (relay num role relayBad noRelay noTags payload c)).sbm
      ∧ Relayed c num role relayBad noRelay noTags (some payload) c.ulp
          (arbitrate (relay num role relayBad noRelay noTags payload c)).ulp
      ∧ arbitrate (relay num role relayBad noRelay noTags payload c)
          = { c with
              sbm := (arbitrate (relay num role relayBad noRelay noTags payload c)).sbm
              ulp := (arbitrate (relay num role relayBad noRelay noTags payload c)).ulp } := by
  refine ⟨?_, ?_, ?_⟩
  · have := arbitrate_granted (relay num role relayBad noRelay noTags payload c) (by simpa using h)
    unfold Granted at this ⊢
    simpa using this
  · have := relay_relayed c num role relayBad noRelay noTags payload
    simpa using this
  · apply State.eq_of_fields
    simp

/-- Replacing a slot by one of the same node state leaves every node state of a role. -/
theorem roleNode_set (k : Role) (rows : List PollRow) (xs : List Slot) (i : Nat) (x y : Slot) (h : xs[i]? = some x)
    (hn : y.node = x.node) :
    ((rows.zip (xs.set i y)).find? (fun z => decide (z.1.role = k))).map (fun z => z.2.node)
      = ((rows.zip xs).find? (fun z => decide (z.1.role = k))).map (fun z => z.2.node) := by
  induction rows generalizing xs i with
  | nil => simp
  | cons r rows ih =>
    cases xs with
    | nil => simp
    | cons z xs =>
      cases i with
      | zero =>
        have hz : z = x := by simpa using h
        subst hz
        by_cases hr : r.role = k <;> simp [hr, hn]
      | succ i =>
        have := ih xs i (by simpa using h)
        by_cases hr : r.role = k
        · simp [hr]
        · simpa [List.find?, hr] using this

/-- Serving a slot whose node is ALIVE leaves every node state of a role. -/
theorem roleAlive_served (s : State) (num address : Nat) (x : Slot) (row : PollRow)
    (hx : s.sbm.slots[num - 1]? = some x) (ha : x.node = .alive) (k : Role) :
    roleAlive k (servedState s num address x row) = roleAlive k s := by
  unfold roleAlive
  apply decide_eq_decide.mpr
  unfold roleNode
  exact Eq.congr_left (roleNode_set k _ _ _ x _ hx ha.symm)

end Sys2Proof.Machine
end

