-- ==== Sys2Proof/Laws/SpecLink.lean ====
section
/-! SUPPORT. What the operations of the link port do, said once: a valid frame, an answer, a discard, the notices of a
lost link. -/

namespace Sys2Proof.Machine

open Sys2Proof.Safety

/-! ### The port after a frame -/

@[simp] theorem portAfterFrame_link (u : Ulp) : (portAfterFrame u).link = u.link := rfl
@[simp] theorem portAfterFrame_rate (u : Ulp) : (portAfterFrame u).rate = u.rate := rfl
@[simp] theorem portAfterFrame_lockRun (u : Ulp) : (portAfterFrame u).lockRun = u.lockRun := rfl
@[simp] theorem portAfterFrame_dwellDeadline (u : Ulp) : (portAfterFrame u).dwellDeadline = u.dwellDeadline := rfl
@[simp] theorem portAfterFrame_linkDeadline (u : Ulp) : (portAfterFrame u).linkDeadline = u.linkDeadline := rfl
@[simp] theorem portAfterFrame_relockDeadline (u : Ulp) : (portAfterFrame u).relockDeadline = u.relockDeadline := rfl
@[simp] theorem portAfterFrame_rx (u : Ulp) : (portAfterFrame u).rx = .waitStart := rfl
@[simp] theorem portAfterFrame_discards (u : Ulp) : (portAfterFrame u).discards = 0 := rfl
@[simp] theorem portAfterFrame_answers (u : Ulp) : (portAfterFrame u).answers = u.answers := rfl
@[simp] theorem portAfterFrame_telemetry (u : Ulp) : (portAfterFrame u).telemetry = u.telemetry := rfl
@[simp] theorem portAfterFrame_feedHold (u : Ulp) : (portAfterFrame u).feedHold = u.feedHold := rfl
@[simp] theorem portAfterFrame_statusPending (u : Ulp) : (portAfterFrame u).statusPending = u.statusPending := rfl
@[simp] theorem portAfterFrame_uplink (u : Ulp) : (portAfterFrame u).uplink = u.uplink := rfl
@[simp] theorem portAfterFrame_tx (u : Ulp) : (portAfterFrame u).tx = u.tx := rfl
@[simp] theorem portAfterFrame_summary (u : Ulp) : (portAfterFrame u).summary = u.summary := rfl

@[simp] theorem portAnswering_link (u : Ulp) (k tag : Byte) (r : ResultCode) (p : List Byte) :
    (portAnswering u k tag r p).link = u.link := rfl
@[simp] theorem portAnswering_rate (u : Ulp) (k tag : Byte) (r : ResultCode) (p : List Byte) :
    (portAnswering u k tag r p).rate = u.rate := rfl
@[simp] theorem portAnswering_lockRun (u : Ulp) (k tag : Byte) (r : ResultCode) (p : List Byte) :
    (portAnswering u k tag r p).lockRun = u.lockRun := rfl
@[simp] theorem portAnswering_dwellDeadline (u : Ulp) (k tag : Byte) (r : ResultCode) (p : List Byte) :
    (portAnswering u k tag r p).dwellDeadline = u.dwellDeadline := rfl
@[simp] theorem portAnswering_linkDeadline (u : Ulp) (k tag : Byte) (r : ResultCode) (p : List Byte) :
    (portAnswering u k tag r p).linkDeadline = u.linkDeadline := rfl
@[simp] theorem portAnswering_relockDeadline (u : Ulp) (k tag : Byte) (r : ResultCode) (p : List Byte) :
    (portAnswering u k tag r p).relockDeadline = u.relockDeadline := rfl
@[simp] theorem portAnswering_rx (u : Ulp) (k tag : Byte) (r : ResultCode) (p : List Byte) :
    (portAnswering u k tag r p).rx = .waitStart := rfl
@[simp] theorem portAnswering_discards (u : Ulp) (k tag : Byte) (r : ResultCode) (p : List Byte) :
    (portAnswering u k tag r p).discards = 0 := rfl
@[simp] theorem portAnswering_answers (u : Ulp) (k tag : Byte) (r : ResultCode) (p : List Byte) :
    (portAnswering u k tag r p).answers = u.answers ++ [⟨k, tag, r, p⟩] := rfl
@[simp] theorem portAnswering_telemetry (u : Ulp) (k tag : Byte) (r : ResultCode) (p : List Byte) :
    (portAnswering u k tag r p).telemetry = u.telemetry := rfl
@[simp] theorem portAnswering_feedHold (u : Ulp) (k tag : Byte) (r : ResultCode) (p : List Byte) :
    (portAnswering u k tag r p).feedHold = u.feedHold := rfl
@[simp] theorem portAnswering_statusPending (u : Ulp) (k tag : Byte) (r : ResultCode) (p : List Byte) :
    (portAnswering u k tag r p).statusPending = u.statusPending := rfl
@[simp] theorem portAnswering_uplink (u : Ulp) (k tag : Byte) (r : ResultCode) (p : List Byte) :
    (portAnswering u k tag r p).uplink = u.uplink := rfl
@[simp] theorem portAnswering_tx (u : Ulp) (k tag : Byte) (r : ResultCode) (p : List Byte) :
    (portAnswering u k tag r p).tx = u.tx := rfl
@[simp] theorem portAnswering_summary (u : Ulp) (k tag : Byte) (r : ResultCode) (p : List Byte) :
    (portAnswering u k tag r p).summary = u.summary := rfl

/-! ### Frames and answers -/

/-- A valid frame in ONLINE or LOSS runs what its kind does, on the port with the assembly waiting. -/
theorem takeFrame_eq (i : Instr) (s : State) (h : s.ulp.link ≠ .hunt) :
    takeFrame i s = executeFrame i { s with ulp := portAfterFrame s.ulp } := by
  simp only [takeFrame, h, if_false]
  rfl

/-- In HUNT a frame does nothing. -/
theorem takeFrame_hunt (i : Instr) (s : State) (h : s.ulp.link = .hunt) : takeFrame i s = s := by
  simp [takeFrame, h]

/-- In HUNT the arbiter chooses nothing. -/
theorem serveUplink_hunt (s : State) (h : s.ulp.link = .hunt) : serveUplink s = s := by
  simp [serveUplink, h]

/-- Outside IDLE the arbiter chooses nothing. -/
theorem serveUplink_busy (s : State) (h : s.ulp.uplink ≠ .idle) : serveUplink s = s := by
  simp [serveUplink, h]

/-- A request that finds a free place runs. -/
theorem ifAnswerable_run (body : State → State) (s : State) (h : answerable s) :
    ifAnswerable body { s with ulp := portAfterFrame s.ulp } = body { s with ulp := portAfterFrame s.ulp } := by
  unfold ifAnswerable
  rw [if_pos]
  have := h.2
  unfold occupiedPlaces answerPlaces boolNat
  simpa [portAfterFrame] using this

/-- A request that finds no free place sets ANSWER_OVERFLOW and does nothing else. -/
theorem ifAnswerable_full (body : State → State) (s : State)
    (h : 8 ≤ s.ulp.answers.length + (if s.sbm.access.isSome then 1 else 0)) :
    ifAnswerable body { s with ulp := portAfterFrame s.ulp }
      = { s with
          ulp := { portAfterFrame s.ulp with summary := { s.ulp.summary with answerOverflow := true } } } := by
  unfold ifAnswerable
  rw [if_neg]
  · rfl
  · unfold occupiedPlaces answerPlaces boolNat
    simpa [portAfterFrame] using h

/-- An answer placed on a port that took a frame. -/
theorem answer_afterFrame (k : DownlinkKind) (tag : Byte) (r : ResultCode) (p : List Byte) (s : State) :
    answer k tag r p { s with ulp := portAfterFrame s.ulp }
      = { s with ulp := portAnswering s.ulp (downlinkCode k) tag r p } := rfl

/-! ### Discards -/

/-- A discard is counted. -/
theorem discardFrame_discarded (s : State) : Discarded s (discardFrame s) := by
  unfold discardFrame Discarded sameOutsideLink
  simp only
  split
  · next h =>
    have : ¬ s.ulp.discards + 1 < 8 := by omega
    simp [this]
    exact ⟨rfl, fun _ => postEntry_posted _ _ _ _ _⟩
  · next h =>
    have h' : s.ulp.discards + 1 < 8 := by omega
    simp [h']
    intro; omega

/-! ### Notices of a lost link -/

/-- What the notices of an entry into LOSS or HUNT do to the head; `s` is the state before the port changed. -/
theorem linkNotices_notified (hunt : Bool) (s : State) (h : s.ulp.link ≠ .online) :
    HeadNotified s (linkNotices hunt s) := by
  have he : effectiveMode (linkNoticePlates hunt (onGovernors governorLinkNotice (s.setVtr (loseDepth s.vtr)))) = .frozen := by
    simp [effectiveMode, online, linkNoticePlates, h]
  have hp : (linkNotices hunt s).pps
      = (linkNoticePlates hunt (onGovernors governorLinkNotice (s.setVtr (loseDepth s.vtr)))).pps := by
    unfold linkNotices
    rw [evaluateAndHand_eq]
    have := (evaluateAndHand_handed (linkNoticePlates hunt (onGovernors governorLinkNotice (s.setVtr (loseDepth s.vtr))))).2
      (.inl (by rw [he]; simp))
    simp [this]
  have hs := (evaluate_spl (linkNoticePlates hunt (onGovernors governorLinkNotice (s.setVtr (loseDepth s.vtr))))).2.2
      (.inr (.inl he))
  unfold HeadNotified
  refine ⟨?_, ?_, ?_, ?_, ?_, ?_, ?_, ?_, ?_, ?_, ?_, ?_⟩
  · simp [linkNotices, loseDepth]
  · intro d
    have : (linkNotices hunt s).governor d = governorLinkNotice (s.governor d) := by
      cases d <;> simp [linkNotices, onGovernors, onGovernor]
    rw [this]
    refine ⟨?_, ?_, ?_⟩
    · intro h; simp [governorLinkNotice, h]
    · intro dl h; simp [governorLinkNotice, h]
    · intro h1 h2
      unfold governorLinkNotice
      split <;> simp_all
  · rw [hp]
    intro id
    have := stopMoving_spec (onGovernors governorLinkNotice (s.setVtr (loseDepth s.vtr))) id
    simpa [linkNoticePlates] using this
  · rw [hp]; simp [linkNoticePlates]
  · unfold linkNotices
    rw [evaluateAndHand_spl, hs]
    simp
  all_goals simp [linkNotices]

/-! ### HEAD RESET -/

/-- HEAD RESET takes the planner and the positioner in one of the two orders. -/
theorem headResetSteering_order (s : State) :
    headResetSteering s = (headResetPlates (headResetPlanner s)).nextFree
      ∨ headResetSteering s = (headResetPlanner (headResetPlates s)).nextFree := by
  unfold headResetSteering
  simp only
  split
  · exact .inr rfl
  · split
    · exact .inl rfl
    · exact .inr rfl

/-- After its own reset the positioner is in RETRACT, so the planner's reset hands it nothing. -/
theorem headResetPlanner_afterPlates (s : State) :
    headResetPlanner (headResetPlates s) = (headResetPlates s).setSpl resetSpl := by
  unfold headResetPlanner handTargets
  rw [if_neg]
  rintro ⟨-, h⟩
  by_cases ho : s.ulp.link = .online <;> simp [effectiveMode, online, headResetPlates, ho] at h

/-- A decision keeps the position and the latch of a plate, and a plate in STUCK or NOFB. -/
theorem decidePlate_keeps (now : HeadTime) (t : SteeringParams) (target : Nat) (p : Plate) :
    (decidePlate now t target p).position = p.position ∧ (decidePlate now t target p).stuckLatch = p.stuckLatch
      ∧ (p.state = .stuck ∨ p.state = .nofb → decidePlate now t target p = p) := by
  obtain ⟨state, position, stroke, bar, latch⟩ := p
  cases state <;> cases position <;> simp [decidePlate, turnOff, plateMotion]
  all_goals (repeat' split) <;> simp [startMotion, turnOff, plateMotion]

/-- A decision as the state stands keeps the same. -/
theorem decideFor_keeps (s : State) (id : PlateId) (p : Plate) :
    (decideFor s id p).position = p.position ∧ (decideFor s id p).stuckLatch = p.stuckLatch
      ∧ (p.state = .stuck ∨ p.state = .nofb → decideFor s id p = p) := by
  unfold decideFor
  split
  · exact ⟨rfl, rfl, fun _ => rfl⟩
  · exact decidePlate_keeps _ _ _ _

/-- A plate stopped, or left because its valve is off, does not move. -/
theorem stopMoving_still (s : State) (q : Quad Plate) (id : PlateId) :
    moving ((stopMoving s q).get id) = false ∧ ((stopMoving s q).get id).position = (q.get id).position
      ∧ ((stopMoving s q).get id).stuckLatch = (q.get id).stuckLatch
      ∧ ((q.get id).state = .stuck ∨ (q.get id).state = .nofb → (stopMoving s q).get id = q.get id) := by
  simp only [stopMoving, Quad.get_mapPlates]
  generalize q.get id = p
  obtain ⟨state, position, stroke, bar, latch⟩ := p
  cases state <;> simp [plateMotion, turnOff, moving]

/-- HEAD RESET leaves the planner at its reset values. -/
theorem headResetSteering_spl (s : State) : (headResetSteering s).spl = resetSpl := by
  rcases headResetSteering_order s with h | h <;> rw [h]
  · unfold headResetPlanner handTargets
    split <;> simp
  · rw [headResetPlanner_afterPlates]
    simp

/-- HEAD RESET leaves the positioner in RETRACT with manual targets 0 and no plate moving. -/
theorem headResetSteering_pps (s : State) :
    (headResetSteering s).pps.mode = .retract ∧ (headResetSteering s).pps.manualTargets = .all 0
      ∧ ∀ id : PlateId, moving ((headResetSteering s).pps.plates.get id) = false
          ∧ ((headResetSteering s).pps.plates.get id).position = (s.pps.plates.get id).position
          ∧ ((headResetSteering s).pps.plates.get id).stuckLatch = (s.pps.plates.get id).stuckLatch
          ∧ ((s.pps.plates.get id).state = .stuck ∨ (s.pps.plates.get id).state = .nofb →
              (headResetSteering s).pps.plates.get id = s.pps.plates.get id) := by
  rcases headResetSteering_order s with h | h <;> rw [h]
  · refine ⟨rfl, rfl, fun id => ?_⟩
    have hs := stopMoving_still (headResetPlanner s) (headResetPlanner s).pps.plates id
    have hk : ((headResetPlanner s).pps.plates.get id).position = (s.pps.plates.get id).position
        ∧ ((headResetPlanner s).pps.plates.get id).stuckLatch = (s.pps.plates.get id).stuckLatch
        ∧ ((s.pps.plates.get id).state = .stuck ∨ (s.pps.plates.get id).state = .nofb →
            (headResetPlanner s).pps.plates.get id = s.pps.plates.get id) := by
      unfold headResetPlanner handTargets
      split
      · simpa [decisionPass, setPlates] using decideFor_keeps (s.setSpl resetSpl) id (s.pps.plates.get id)
      · simp
    refine ⟨hs.1, hs.2.1.trans hk.1, hs.2.2.1.trans hk.2.1, fun hc => ?_⟩
    have := hk.2.2 hc
    exact (hs.2.2.2 (by rw [this]; exact hc)).trans this
  · rw [headResetPlanner_afterPlates]
    exact ⟨rfl, rfl, fun id => stopMoving_still s s.pps.plates id⟩

end Sys2Proof.Machine
end

