-- ==== Sys2Proof/Laws/SpecControl.lean ====
section
/-! SUPPORT. What a CONTROL frame does, said in three parts: the link stage, the fields taken by their owners, and the
depth. -/

namespace Sys2Proof.Machine

open Sys2Proof.Safety

/-! ### The latch -/

/-- The port with CONTROL_CLAMPED set when a field was limited or not valid. -/
def withClamped (clamped : Bool) (u : Ulp) : Ulp :=
  { u with summary := { u.summary with controlClamped := u.summary.controlClamped || clamped } }

theorem latchClamped_eq (clamped : Bool) (s : State) : latchClamped clamped s = s.setUlp (withClamped clamped s.ulp) := by
  unfold latchClamped withClamped
  cases clamped <;> simp [State.setUlp]

theorem withClamped_withClamped (a b : Bool) (u : Ulp) : withClamped a (withClamped b u) = withClamped (b || a) u := by
  simp [withClamped, Bool.or_assoc]

theorem withClamped_false (u : Ulp) : withClamped false u = u := by simp [withClamped]

/-! ### The link stage -/

/-- The link stage of a CONTROL frame leaves the link ONLINE with its deadline restarted, and posts LINK_RESTORED in
LOSS. -/
theorem controlLink_eq (s : State) (h : s.ulp.link ≠ .hunt) :
    controlLink s
      = { s with
          ulp :=
            { s.ulp with
              link := .online
              linkDeadline := some (s.headTime + BitVec.ofNat 32 s.tst.active.link.linkTimeout)
              relockDeadline := if s.ulp.link = .loss then none else s.ulp.relockDeadline }
          rpu :=
            { s.rpu with
              events :=
                if s.ulp.link = .loss then
                  postEntry s.headTime .linkRestored .link (s.ulp.rate.val : Int) s.rpu.events
                else s.rpu.events } } := by
  unfold controlLink restartLinkDeadline
  by_cases hl : s.ulp.link = .loss
  · simp [hl, post_eq, State.setUlp, after]
  · have ho : s.ulp.link = .online := by
      cases hh : s.ulp.link <;> simp_all
    simp [ho, State.setUlp, after]

/-! ### The fields -/

/-- The values of a CONTROL frame that are limited or not valid. -/
def clampedFields (f : ControlFields) : Bool :=
  decide
    (400 < f.nSet.toNat ∨ 1 < f.directionL.toNat ∨ 1 < f.directionR.toNat ∨ 1 < f.enableL.toNat ∨ 1 < f.enableR.toNat
      ∨ 1 < f.pumpEnable.toNat ∨ 1000 < f.pumpSetpoint.toNat ∨ f.supplyDensity.toNat < 1000
      ∨ 1400 < f.supplyDensity.toNat ∨ 2 < f.mode.toNat ∨ 1000 < f.manualP1.toNat ∨ 1000 < f.manualP2.toNat
      ∨ 1000 < f.manualP3.toNat ∨ 1000 < f.manualP4.toNat ∨ f.manualDelta.toInt < -100 ∨ 100 < f.manualDelta.toInt)

/-- The governor of a drum after its fields of a CONTROL frame taken in ONLINE. -/
def governorTaken (s : State) (d : Drum) (direction enable : Byte) : Governor :=
  enableTaken true (roleAlive (drumRole d) s) (enable == 1) (directionTaken direction (s.governor d))

/-- The Slurry Return Unit after its fields of a CONTROL frame taken in ONLINE. -/
def pumpTaken (s : State) (setpoint density : Nat) (enable : Byte) : Sru :=
  pumpEnableTaken s.headTime s.tst.active.slurry true (enable == 1)
    (densityTaken density (setpointTaken s.tst.active.slurry setpoint s.sru))

/-- The stored mode after a CONTROL frame (R118). -/
def modeTaken (old : Mode) (v : Byte) : Mode :=
  match v.toNat with
  | 0 => .retract
  | 1 => .auto
  | 2 => .manual
  | _ => old

/-- The state after every field of a CONTROL frame but the depth, from a state in ONLINE. -/
def fieldsTaken (f : ControlFields) (s : State) : State :=
  { s with
    nSet := min 400 f.nSet.toNat
    governorL := governorTaken s .left f.directionL f.enableL
    governorR := governorTaken s .right f.directionR f.enableR
    sru := pumpTaken s f.pumpSetpoint.toNat f.supplyDensity.toNat f.pumpEnable
    pps :=
      { s.pps with
        mode := modeTaken s.pps.mode f.mode
        manualTargets :=
          ⟨min 1000 f.manualP1.toNat, min 1000 f.manualP2.toNat, min 1000 f.manualP3.toNat, min 1000 f.manualP4.toNat⟩ }
    spl := { s.spl with manualDelta := max (-100) (min 100 f.manualDelta.toInt) }
    ulp := withClamped (clampedFields f) s.ulp }

theorem takeMode_eq (v : Byte) (s : State) :
    takeMode v s
      = { s with
          pps := { s.pps with mode := modeTaken s.pps.mode v }
          ulp := withClamped (decide (2 < v.toNat)) s.ulp } := by
  unfold takeMode modeTaken
  generalize v.toNat = n
  rcases n with _ | _ | _ | n
  · simp [State.setPps, withClamped_false]
  · simp [State.setPps, withClamped_false]
  · simp [State.setPps, withClamped_false]
  · simp [latchClamped_eq, State.setUlp]

/-- Every field but the depth, taken in the order of R176. -/
theorem fieldsTaken_eq (f : ControlFields) (s : State) (h : s.ulp.link = .online) :
    takeManualDelta f.manualDelta.toInt
        (takeManualTargets ⟨f.manualP1.toNat, f.manualP2.toNat, f.manualP3.toNat, f.manualP4.toNat⟩
          (takeMode f.mode
            (takePumpFields f.pumpSetpoint.toNat f.supplyDensity.toNat f.pumpEnable
              (takeDrumFields .right f.directionR f.enableR
                (takeDrumFields .left f.directionL f.enableL (takeNSet f.nSet.toNat s))))))
      = fieldsTaken f s := by
  have hon : online s = true := by simp [online, h]
  have e1 : takeNSet f.nSet.toNat s
      = { s with nSet := min 400 f.nSet.toNat, ulp := withClamped (decide (400 < f.nSet.toNat)) s.ulp } := by
    simp [takeNSet, latchClamped_eq, State.setUlp, State.setNSet]
  have eL : ∀ (x : State), x.ulp.link = .online →
      takeDrumFields .left f.directionL f.enableL x
        = { x with
            governorL := governorTaken x .left f.directionL f.enableL
            ulp := withClamped (decide (1 < f.directionL.toNat ∨ 1 < f.enableL.toNat)) x.ulp } := by
    intro x hx
    simp [takeDrumFields, latchClamped_eq, State.setUlp, State.setGovernor, governorTaken, online, hx]
  have eR : ∀ (x : State), x.ulp.link = .online →
      takeDrumFields .right f.directionR f.enableR x
        = { x with
            governorR := governorTaken x .right f.directionR f.enableR
            ulp := withClamped (decide (1 < f.directionR.toNat ∨ 1 < f.enableR.toNat)) x.ulp } := by
    intro x hx
    simp [takeDrumFields, latchClamped_eq, State.setUlp, State.setGovernor, governorTaken, online, hx]
  have eP : ∀ (x : State), x.ulp.link = .online →
      takePumpFields f.pumpSetpoint.toNat f.supplyDensity.toNat f.pumpEnable x
        = { x with
            sru := pumpTaken x f.pumpSetpoint.toNat f.supplyDensity.toNat f.pumpEnable
            ulp :=
              withClamped
                (decide (1000 < f.pumpSetpoint.toNat ∨ f.supplyDensity.toNat < 1000 ∨ 1400 < f.supplyDensity.toNat
                  ∨ 1 < f.pumpEnable.toNat)) x.ulp } := by
    intro x hx
    simp [takePumpFields, latchClamped_eq, State.setUlp, State.setSru, pumpTaken, online, hx]
  rw [e1, eL _ (by simpa [withClamped] using h), eR _ (by simpa [withClamped] using h),
    eP _ (by simpa [withClamped] using h), takeMode_eq]
  unfold takeManualDelta takeManualTargets
  simp only [latchClamped_eq, clamp]
  apply State.eq_of_fields
  refine ⟨rfl, rfl, rfl, rfl, rfl, rfl, rfl, ?_, rfl, rfl, ?_, rfl, rfl, rfl⟩
  · simp [fieldsTaken, Quad.mapPlates]
  · simp only [State.setUlp_ulp, State.setPps_ulp, State.setSpl_ulp, withClamped_withClamped, fieldsTaken]
    congr 1
    rw [Bool.eq_iff_iff]
    have hd : max (-100) (min 100 f.manualDelta.toInt) ≠ f.manualDelta.toInt
        ↔ f.manualDelta.toInt < -100 ∨ 100 < f.manualDelta.toInt := by omega
    simp only [Bool.or_eq_true, decide_eq_true_eq, clampedFields, hd]
    omega

/-- A CONTROL frame: the link stage, the fields, the depth, the evaluation and the pass. -/
theorem deliverControl_eq (f : ControlFields) (s : State) (h : s.ulp.link ≠ .hunt) :
    deliverControl f s
      = decisionPass (evaluate (takeDepth f.depth.toNat (fieldsTaken f (controlLink s)))) := by
  unfold deliverControl
  simp only
  rw [fieldsTaken_eq]
  rw [controlLink_eq s h]

/-! ### The depth -/

/-- A depth is taken by the tests the statements name. -/
theorem depthAccepted_iff (s : State) (v : Nat) :
    depthAccepted s.tst.active.mounting.params s.vtr v = true ↔ depthTaken s v := by
  unfold depthAccepted depthTaken withinStep maxDepth
  cases hd : s.vtr.depth <;> cases hc : s.vtr.candidate <;> simp

/-- What a depth may change in the Slurry Return Unit, the port, the planner and the Report Unit: the account with its
level and hold, the FEED HOLD slot, the planner's outputs, and the events. -/
def DepthKeeps (s t : State) : Prop :=
  t.sru
      = { s.sru with
          account := t.sru.account
          residueC := t.sru.residueC
          level := t.sru.level
          held := t.sru.held
          refreshDeadline := t.sru.refreshDeadline }
    ∧ t.ulp = { s.ulp with feedHold := t.ulp.feedHold }
    ∧ t.spl = { s.spl with deltaN := t.spl.deltaN, targets := t.spl.targets, lastErrors := t.spl.lastErrors }
    ∧ t.rpu = { s.rpu with events := t.rpu.events }

theorem DepthKeeps.refl (s : State) : DepthKeeps s s := ⟨rfl, rfl, rfl, rfl⟩

theorem DepthKeeps.trans {s t u : State} (h : DepthKeeps s t) (k : DepthKeeps t u) : DepthKeeps s u := by
  obtain ⟨a, b, c, d⟩ := h
  obtain ⟨a', b', c', d'⟩ := k
  refine ⟨?_, ?_, ?_, ?_⟩
  · rw [a', a]
  · rw [b', b]
  · rw [c', c]
  · rw [d', d]

theorem DepthKeeps.setVtr (s : State) (v : Vtr) : DepthKeeps s (s.setVtr v) := ⟨rfl, rfl, rfl, rfl⟩

theorem DepthKeeps.post (k : EventKind) (c : EventSource) (v : Int) (s : State) : DepthKeeps s (post k c v s) :=
  ⟨rfl, rfl, rfl, rfl⟩

theorem DepthKeeps.evaluate (s : State) : DepthKeeps s (evaluate s) := by
  refine ⟨rfl, rfl, ?_, rfl⟩
  simp only [Sys2Proof.Machine.evaluate, evaluated, State.setSpl_spl]
  split <;> rfl

theorem DepthKeeps.cutTerm (advance : Nat) (s : State) : DepthKeeps s (cutTerm advance s) := by
  unfold Sys2Proof.Machine.cutTerm
  refine ⟨?_, ?_, ?_, ?_⟩
  · rw [accountUpdate_sru]
    rfl
  · rw [accountUpdate_ulp]
    rfl
  · simp
  · rw [accountUpdate_rpu]
    rfl

theorem DepthKeeps.toleranceTest (s : State) : DepthKeeps s (toleranceTest s) := by
  unfold Sys2Proof.Machine.toleranceTest
  simp only
  split <;> split
  · exact (DepthKeeps.post _ _ _ _).trans (DepthKeeps.post _ _ _ _)
  · exact DepthKeeps.post _ _ _ _
  · exact DepthKeeps.post _ _ _ _
  · exact DepthKeeps.refl _

theorem DepthKeeps.postDisagree (m : MountingParams) (v : Vtr) (axis : Axis) (s : State) :
    DepthKeeps s (postDisagree m v axis s) := by
  unfold Sys2Proof.Machine.postDisagree
  split
  · exact DepthKeeps.post _ _ _ _
  · exact DepthKeeps.refl _

theorem DepthKeeps.closeTest (d : Nat) (s : State) : DepthKeeps s (closeTest d s) := by
  unfold Sys2Proof.Machine.closeTest
  split
  · exact DepthKeeps.refl _
  · split
    · split
      · unfold closeStation
        exact ((((DepthKeeps.postDisagree _ _ _ _).trans (DepthKeeps.postDisagree _ _ _ _)).trans
          (DepthKeeps.postDisagree _ _ _ _)).trans (DepthKeeps.setVtr _ _)).trans
          ((DepthKeeps.toleranceTest _).trans (DepthKeeps.evaluate _))
      · unfold refuseClose
        split
        · exact (DepthKeeps.setVtr _ _).trans (DepthKeeps.post _ _ _ _)
        · exact DepthKeeps.refl _
    · exact DepthKeeps.refl _

/-- A depth changes only what it may. -/
theorem takeDepth_keeps (v : Nat) (s : State) : DepthKeeps s (takeDepth v s) := by
  unfold takeDepth
  split
  · unfold acceptDepth
    simp only
    split
    · exact DepthKeeps.setVtr _ _
    · split
      · unfold advanceFace
        exact ((DepthKeeps.setVtr _ _).trans (DepthKeeps.setVtr _ _)).trans
          (((DepthKeeps.setVtr _ _).trans (DepthKeeps.cutTerm _ _)).trans (DepthKeeps.closeTest _ _))
      · exact (DepthKeeps.setVtr _ _).trans (DepthKeeps.setVtr _ _)
  · unfold rejectDepth
    exact (DepthKeeps.setVtr _ _).trans (DepthKeeps.post _ _ _ _)

end Sys2Proof.Machine
end

