-- ==== Sys2Proof/Laws/SpecUplink.lean ====
section
/-! SUPPORT. The lengths of the bytes of values and of the parts of a STATUS payload, how a slice of a payload finds the
part it lies in, and what the bits of a character spell. -/

namespace Sys2Proof.Machine

open Sys2Proof.Safety

@[simp] theorem length_leBytes (n v : Nat) : (leBytes n v).length = n := by
  induction n generalizing v with
  | zero => rfl
  | succ n ih => simp [leBytes, ih]

@[simp] theorem length_leInt (n : Nat) (v : Int) : (leInt n v).length = n := by simp [leInt]

@[simp] theorem length_optionBytes (n : Nat) (v : Option Nat) : (optionBytes n v).length = n := by
  cases v <;> simp [optionBytes]

@[simp] theorem length_governorBytes (g : Governor) : (governorBytes g).length = 8 := by simp [governorBytes]

@[simp] theorem length_plateBytes (p : Plate) : (plateBytes p).length = 3 := by simp [plateBytes]

@[simp] theorem length_errorBytes (e : Option SteeringErrors) : (errorBytes e).length = 11 := by
  cases e <;> simp [errorBytes]

@[simp] theorem length_statusHead (s : State) : (statusHead s).length = 29 := by simp [statusHead]

@[simp] theorem length_statusSteering (s : State) : (statusSteering s).length = 35 := by
  simp [statusSteering, quadBytes]

@[simp] theorem length_statusTail (s : State) : (statusTail s).length = 30 := by simp [statusTail]

@[simp] theorem length_statusPayload (s : State) : (statusPayload s).length = 94 := by simp [statusPayload]

/-- A slice that lies behind a part is a slice of the rest. -/
theorem slice_append_right (a b : List Byte) (i n : Nat) (h : a.length ≤ i) :
    slice (a ++ b) i n = slice b (i - a.length) n := by
  simp [slice, List.drop_append, List.drop_eq_nil_of_le h]

/-- A slice that lies inside a part is a slice of it. -/
theorem slice_append_left (a b : List Byte) (i n : Nat) (h : i + n ≤ a.length) : slice (a ++ b) i n = slice a i n := by
  simp only [slice, List.drop_append_of_le_length (show i ≤ a.length by omega)]
  exact List.take_append_of_le_length (by simp; omega)

/-- A slice that is a whole part. -/
theorem slice_self (a : List Byte) (n : Nat) (h : a.length = n) : slice a 0 n = a := by
  subst h
  simp [slice]

/-! ### Characters -/

/-- The data bits of a byte spell it. -/
theorem ofBits_dataBits (b : Byte) : ofBits (dataBits b) < 256 ∧ BitVec.ofNat 8 (ofBits (dataBits b)) = b := by
  revert b
  decide +kernel

/-- A start bit, the data bits of a byte, and two bits more are read as that byte and those bits. -/
theorem readBits_dataBits (b : Byte) (ninth stop : Bool) :
    readBits (false :: (dataBits b ++ [ninth, stop])) = some (b, ninth, stop) := by
  have h : readBits (false :: (dataBits b ++ [ninth, stop]))
      = some (BitVec.ofNat 8 (ofBits (dataBits b)), ninth, stop) := rfl
  rw [h, (ofBits_dataBits b).2]

end Sys2Proof.Machine
end

