-- ==== Sys2Proof/Tests/Slice0.lean ====
section
/-! SUPPORT. The model's own tests: ill-formed commands, frames and figures of the manual's worked sequences, and, for
every statement with hypotheses, a state that meets them. -/

namespace Sys2Proof.Tests

open Sys2Proof Sys2Proof.Machine Sys2Proof.Safety

-- One test at a time: tests evaluated by the kernel at once would each hold a thread of the compile of the whole package.
set_option Elab.async false

/-! ### States to test on -/

/-- The state an outcome answers; the state before it where there is none. -/
def resultOf (s : State) (o : Host.Outcome State Fault Refusal) : State :=
  match o with
  | .next t => t
  | .fault _ => s
  | .refused _ => s

/-- The state after one command. -/
def ran (c : Instr) (s : State) : State := resultOf s (exec c s)

/-- ONLINE at a head time, with the sync reply under way, so that the uplink takes nothing from its sources. -/
def onlineAt (now : Nat) : State :=
  { State.reset with
    headTime := BitVec.ofNat 32 now
    ulp :=
      { resetUlp with
        link := .online, dwellDeadline := none, linkDeadline := some (BitVec.ofNat 32 (now + 500)), uplink := .sync }
    rpu := { resetRpu with statusDeadline := some (BitVec.ofNat 32 (now + 1000)) } }

/-- LOSS at a head time, the rate code 2 locked and the relock deadline reached. -/
def lossAt (now : Nat) : State :=
  { onlineAt now with
    ulp :=
      { (onlineAt now).ulp with
        link := .loss, rate := 2, linkDeadline := none, relockDeadline := some (BitVec.ofNat 32 now) } }

/-- HUNT at a head time, at a candidate rate, with a lock run, the dwell reached. -/
def huntAt (now : Nat) (rate : Fin 4) (lockRun : Nat) : State :=
  { State.reset with
    headTime := BitVec.ofNat 32 now
    ulp := { resetUlp with rate := rate, lockRun := lockRun, dwellDeadline := some (BitVec.ofNat 32 now) } }

/-- A poll row. -/
def rowOf (address : Nat) (role : Role) (period : Nat) : PollRow := ⟨address, role, period, false, false⟩

/-- A state with counted poll rows, all ALIVE and due at its head time, and nothing on the bus. -/
def polling (rows : List PollRow) (s : State) : State :=
  { s with
    sbm := { resetSbm with slots := rows.map (fun _ => ⟨s.headTime, 0, .alive⟩) }
    tst :=
      { s.tst with
        active :=
          { s.tst.active with
            poll :=
              { params := { defaultPollTable.params with slotCount := rows.length }
                rows := rows ++ defaultPollTable.rows.drop rows.length } } } }

/-- The bus waiting for the response of slot 1, which has a role, until a deadline. -/
def waiting (role : Role) (deadline : Nat) (s : State) : State :=
  let t := polling [rowOf 8 role 50] s
  { t with sbm := { t.sbm with bus := .response ⟨.slot 1 role false false false, 8, 2, 20, 5⟩ (BitVec.ofNat 32 deadline) } }

/-- A complete error-free response of a node to a request of a kind. -/
def response (address : Nat) (kind : Byte) (payload : List Byte) : List BusChar :=
  let body := kind :: BitVec.ofNat 8 payload.length :: payload
  ⟨true, BitVec.ofNat 8 address, true⟩ :: (body ++ [crc8 body]).map (fun b => ⟨false, b, true⟩)

/-- A frame character, error-free. -/
def heard (s : State) (bytes : List Byte) : State := bytes.foldl (fun t b => ran (.syncCharacter (goodChar b)) t) s

/-! ### Ill-formed commands, each refused by its check -/

theorem test_tableWrite_119_field_bytes_ill_formed :
    (Instr.tableWrite 0 1 0 (List.replicate 119 0)).wellFormed = false := by decide

theorem test_tableRead_118_extra_bytes_ill_formed :
    (Instr.tableRead 0 1 0 0 (List.replicate 118 0)).wellFormed = false := by decide

theorem test_echo_121_bytes_ill_formed : (Instr.echo 0 (List.replicate 121 0)).wellFormed = false := by decide

theorem test_slotDue_0_ill_formed : (Instr.slotDue 0).wellFormed = false := by decide

theorem test_slotDue_17_ill_formed : (Instr.slotDue 17).wellFormed = false := by decide

theorem test_responseComplete_short_ill_formed :
    (Instr.responseComplete ((response 8 1#8 [1, 2, 3]).take 6)).wellFormed = false := by decide

theorem test_responseComplete_whole_well_formed :
    (Instr.responseComplete (response 8 1#8 [1, 2, 3])).wellFormed = true := by decide

/-! ### Frames and characters -/

/-- 07, section 7.2, note 3: the four characters of a SAMPLE request to node 5. -/
theorem test_sample_request_to_node_5 :
    requestChars ⟨.slot 1 .inclA false false false, 5, 2, 20, 5⟩
      = [⟨true, 0x05#8, true⟩, ⟨false, 0x01#8, true⟩, ⟨false, 0x00#8, true⟩, ⟨false, 0x15#8, true⟩] := by decide +kernel

/-- The check value of this CRC-16 over the digits 1 to 9, as published. -/
theorem test_crc16_check_value :
    crc16 [0x31, 0x32, 0x33, 0x34, 0x35, 0x36, 0x37, 0x38, 0x39] = 0x29B1#16 := by decide +kernel

/-- STATUS REQUEST with tag 7, its CRC-16 computed outside the model. -/
theorem test_decode_status_request :
    decodeFrame [0x00#8, 0x34#8, 0x07#8, 0x2A#8, 0x75#8] = some (.statusRequest 7) := by decide +kernel

theorem test_decode_table_open : decodeFrame [0x01#8, 0x20#8, 0x01#8, 0x03#8, 0xE0#8, 0x77#8] = some (.tableOpen 1 3) := by
  decide +kernel

theorem test_decode_table_write :
    decodeFrame [0x06#8, 0x21#8, 0x08#8, 0x01#8, 0x0B#8, 0x90#8, 0x01#8, 0x84#8, 0x03#8, 0x23#8, 0x52#8]
      = some (.tableWrite 8 1 11 [0x90, 0x01, 0x84, 0x03]) := by decide +kernel

theorem test_decode_panel_start :
    decodeFrame
        [0x08#8, 0x30#8, 0x03#8, 0x10#8, 0x27#8, 0x00#8, 0x00#8, 0xF6#8, 0xFF#8, 0x05#8, 0x00#8, 0x1A#8, 0x34#8]
      = some (.panelStart 3 10000 (-10) 5) := by decide +kernel

theorem test_decode_node_access :
    decodeFrame [0x05#8, 0x33#8, 0x04#8, 0x0C#8, 0x01#8, 0x20#8, 0x34#8, 0x12#8, 0x55#8, 0x7E#8]
      = some (.nodeAccess 4 12 1 0x20 0x1234) := by decide +kernel

theorem test_decode_control :
    decodeFrame
        [0x1A#8, 0x10#8, 0x01#8, 0x24#8, 0x4E#8, 0x00#8, 0x00#8, 0xFA#8, 0x00#8, 0x01#8, 0x00#8, 0x00#8, 0x01#8, 0x01#8,
          0x58#8, 0x02#8, 0x1A#8, 0x04#8, 0x01#8, 0xE7#8, 0xFF#8, 0x0A#8, 0x00#8, 0x14#8, 0x00#8, 0x1E#8, 0x00#8,
          0x28#8, 0x00#8, 0x52#8, 0x1D#8]
      = some (.control 1 ⟨20004, 250, 1, 0, 0, 1, 1, 600, 1050, 1, -25, 10, 20, 30, 40⟩) := by decide +kernel

/-- A wrong CRC byte, a kind that is no downlink kind, and a length that is not the kind's. -/
theorem test_decode_refuses_bad_crc : decodeFrame [0x00#8, 0x34#8, 0x07#8, 0x2A#8, 0x74#8] = none := by decide +kernel

/-- The characters of a HEAD RESET frame, one by one: the answer OK stands alone in the queue (R191). -/
theorem test_characters_of_head_reset :
    (heard (onlineAt 1000) [0xC3#8, 0x00#8, 0x3F#8, 0x06#8, 0xF1#8, 0xB9#8]).ulp.answers = [⟨0x3F#8, 6#8, .ok, []⟩] := by
  decide +kernel

/-! ### One step of each command, on the manual's worked sequences -/

/-- R182. -/
theorem test_hardware_reset_hunts_at_rate_0 :
    let t := ran .hardwareReset (onlineAt 1000)
    t.ulp.link = .hunt ∧ t.ulp.rate = 0 ∧ t.ulp.dwellDeadline = some 250 ∧ t.headTime = 0 := by decide +kernel

/-- 09, a loss, a relock and a rate change: at 206,310 the eighth 0x55 locks at rate 1, link deadline 206,810. -/
theorem test_sync_character_locks_at_the_eighth :
    let t := ran (.syncCharacter (goodChar 0x55)) (huntAt 206310 1 7)
    t.ulp.link = .online ∧ t.ulp.rate = 1 ∧ t.ulp.linkDeadline = some 206810 ∧ t.ulp.uplink = .sync := by decide +kernel

/-- The same sequence: at 206,000 the dwell ends, and rate 3 is followed by rate 0. -/
theorem test_hunt_dwell_cycles_to_rate_0 :
    let t := ran .huntDwellExpiry (huntAt 206000 3 5)
    t.ulp.rate = 0 ∧ t.ulp.dwellDeadline = some 206250 ∧ t.ulp.lockRun = 0 := by decide +kernel

/-- The same sequence: the eighth discarded frame posts FRAME_ERRORS with value 8, and the count returns to 0. -/
theorem test_frame_discard_posts_at_the_eighth :
    let s := onlineAt 200480
    let t := ran (.frameDiscard .crc) { s with ulp := { s.ulp with discards := 7 } }
    t.rpu.events = [⟨.frameErrors, .link, 8, 200480, 200480, 1⟩] ∧ t.ulp.discards = 0
      ∧ t.ulp.summary.frameDiscarded = true := by decide +kernel

theorem test_frame_gap_discards_a_frame_begun :
    let s := onlineAt 1000
    let t := ran .frameGapTimeout { s with ulp := { s.ulp with rx := .gathering [3] } }
    t.ulp.rx = .waitStart ∧ t.ulp.discards = 1 := by decide +kernel

/-- A CONTROL frame with a depth, everything else 0 or in range. -/
def depthFrame (depth : Nat) : Instr := .control 0 ⟨BitVec.ofNat 32 depth, 0, 0, 0, 0, 0, 0, 0, 1000, 0, 0, 0, 0, 0, 0⟩

/-- A panel opened at a depth, with no account. -/
def panelAt (depth now : Nat) : State :=
  { onlineAt now with
    vtr :=
      { resetVtr with
        state := .advancing, depth := some depth, dFace := depth, generation := 1
        log := [⟨0, depth, 0, 0, 0, 0, 0, 0, ⟨true, false, false, false, false, false⟩⟩] } }

/-- 05, the two terms: on the default panel an advance of 20 mm cuts 67,200 mL. -/
theorem test_control_cut_term :
    let t := ran (depthFrame 10020) (panelAt 10000 1000)
    t.sru.account = 67200 ∧ t.sru.residueC = 0 ∧ t.vtr.dFace = 10020 := by decide +kernel

/-- 01, the first two stations: station 1 at 10,500 with mX 800 has Sx 800,000. -/
theorem test_control_closes_station_1 :
    let s := panelAt 10000 1000
    let t := ran (depthFrame 10500) { s with vtr := { s.vtr with accA := ⟨16000, 0, 0, 20⟩, accB := ⟨16000, 0, 0, 20⟩ } }
    t.vtr.log.map (fun r => (r.index, r.depth, r.mX, r.sX)) = [(0, 10000, 0, 0), (1, 10500, 800, 800000)] := by
  decide +kernel

/-- An open of Table Store table 3 leaves its load bank equal to its active bank. -/
theorem test_table_open_copies :
    let s := onlineAt 1000
    let t := ran (.tableOpen 1 3) { s with tst := { s.tst with load := { s.tst.load with mounting := ⟨⟨1, 2, 3, 4, 5, .b⟩, ⟨0, 0, 0⟩, ⟨0, 0, 0⟩⟩ } } }
    t.tst.load.mounting = defaultMountingTable ∧ t.ulp.answers = [⟨0x20#8, 1, .ok, [3]⟩] := by decide +kernel

/-- 08, loading the Drum Table, step 5: a duty of 1,200 is refused, and the row stays. -/
theorem test_table_write_refuses_duty_1200 :
    let t := ran (.tableWrite 9 1 10 [0xC8, 0x00, 0xB0, 0x04]) (onlineAt 1000)
    t.ulp.answers = [⟨0x21#8, 9, .badValue, []⟩] ∧ rowFields t.tst.load .drum 10 = [400, 1000] := by decide +kernel

/-- The load bank of that sequence, drum R's third point at a given speed. -/
def loadedCurves (third : Nat) (s : State) : State :=
  { s with
    tst :=
      { s.tst with
        load :=
          { s.tst.load with
            drum :=
              { params := { defaultDrumTable.params with nMax := 300, rampUp := 25, nL := 3, nR := 3 }
                curveL := [⟨0, 80⟩, ⟨200, 450⟩, ⟨400, 900⟩] ++ List.replicate 5 ⟨400, 1000⟩
                curveR := [⟨0, 80⟩, ⟨200, 450⟩, ⟨third, 900⟩] ++ List.replicate 5 ⟨400, 1000⟩ } } } }

/-- 08, loading the Drum Table, step 6: INVALID, row 11. -/
theorem test_table_activate_names_row_11 :
    (ran (.tableActivate 4 1) (loadedCurves 180 (onlineAt 1000))).ulp.answers = [⟨0x22#8, 4, .invalid, [1, 11]⟩] := by
  decide +kernel

/-- 08, loading the Drum Table, step 13: row 11 reads (400, 900). -/
theorem test_table_read_row_11 :
    (ran (.tableRead 5 1 1 11 []) (loadedCurves 400 (onlineAt 1000))).ulp.answers
      = [⟨0x23#8, 5, .ok, [1, 1, 11, 0x90, 0x01, 0x84, 0x03]⟩] := by decide +kernel

/-- 01, section 1.8: station 0 holds the start offsets times 200,000. -/
theorem test_panel_start_station_0 :
    let t := ran (.panelStart 3 10000 (-10) 5) (onlineAt 1000)
    t.vtr.log.map (fun r => (r.depth, r.sX, r.sY)) = [(10000, -2000000, 1000000)] ∧ t.vtr.generation = 1
      ∧ t.vtr.state = .noDepth := by decide +kernel

/-- R27: after reset a LOG READ of any first index is answered RANGE. -/
theorem test_log_read_range_in_no_panel :
    (ran (.logRead 5 0 1) (onlineAt 1000)).ulp.answers = [⟨0x31#8, 5, .range, []⟩] := by decide +kernel

/-- P3 as the manual's stuck plate, at a head time, in a state, toward the manual target of MANUAL. -/
def boulder (now target : Nat) (p : Plate) : State :=
  { onlineAt now with pps := ⟨.manual, ⟨0, 0, target, 0⟩, ⟨resetPlate, resetPlate, p, resetPlate⟩⟩ }

/-- 06, a stuck plate and CLEAR: at 820,000 CLEAR takes P3 from 310 to RETRACT with a stroke deadline of 835,000. -/
theorem test_clear_releases_stuck_p3 :
    (ran (.clear 2 3) (boulder 820000 200 ⟨.stuck, some 310, none, none, true⟩)).pps.plates.p3
      = ⟨.retract, some 310, some 835000, none, false⟩ := by decide +kernel

/-- 07, section 7.8: an accepted access takes an idle bus, and is not answered yet. -/
theorem test_node_access_takes_the_bus :
    let t := ran (.nodeAccess 4 12 1 0x20 0x1234) (onlineAt 1004)
    t.sbm.bus = .request ⟨.access ⟨12, .write, 0x20, 0x1234, 4⟩, 12, 2, 20, 5⟩ ∧ t.ulp.answers = [] := by decide +kernel

theorem test_status_request_gets_no_answer :
    let t := ran (.statusRequest 7) (onlineAt 1000)
    t.ulp.statusPending = true ∧ t.ulp.answers = [] := by decide +kernel

theorem test_echo_of_119_bytes_refused :
    (ran (.echo 1 (List.replicate 119 0xAA)) (onlineAt 1000)).ulp.answers = [⟨0x35#8, 1, .badValue, []⟩] := by
  decide +kernel

/-- R191: the bus stands in QUIET for one response timeout, and the link deadline restarts in ONLINE. -/
theorem test_head_reset_quiets_the_bus :
    let t := ran (.headReset 6) (onlineAt 1000)
    t.sbm.bus = .quiet 1005 ∧ t.ulp.linkDeadline = some 1500 := by decide +kernel

/-- 09, a loss, a relock and a rate change: at 200,500 LOSS, relock deadline 205,500, LINK_LOSS with value 2. -/
theorem test_link_timeout_enters_loss :
    let s := onlineAt 200500
    let t := ran .linkTimeout { s with ulp := { s.ulp with rate := 2, linkDeadline := some 200500 } }
    t.ulp.link = .loss ∧ t.ulp.relockDeadline = some 205500 ∧ t.rpu.events.map (fun e => (e.kind, e.value)) = [(.linkLoss, 2)] := by
  decide +kernel

/-- The same sequence: at 205,500 HUNT at rate 2, dwell to 205,750; the stored mode becomes RETRACT (R132). -/
theorem test_relock_timeout_enters_hunt :
    let s := lossAt 205500
    let t := ran .relockTimeout { s with pps := { s.pps with mode := .auto } }
    t.ulp.link = .hunt ∧ t.ulp.rate = 2 ∧ t.ulp.dwellDeadline = some 205750 ∧ t.pps.mode = .retract := by decide +kernel

theorem test_status_deadline_is_set_again :
    let t := ran .statusDeadline { onlineAt 2000 with rpu := { resetRpu with statusDeadline := some 2000 } }
    t.ulp.statusPending = true ∧ t.rpu.statusDeadline = some 3000 := by decide +kernel

/-- 07, a timeout and an overrun, note 3: due at 1,020, 1,020, 1,024 and 1,019, slot 4 is granted first. -/
theorem test_slot_due_grants_the_earliest :
    let s := polling [rowOf 2 .inclA 20, rowOf 3 .inclB 20, rowOf 8 .drumL 5, rowOf 9 .drumR 5] (onlineAt 1024)
    let t :=
      ran (.slotDue 4)
        { s with
          sbm := { s.sbm with slots := [⟨1020, 0, .alive⟩, ⟨1020, 0, .alive⟩, ⟨1024, 3, .lost⟩, ⟨1019, 0, .alive⟩] } }
    t.sbm.bus = .request ⟨.slot 4 .drumR false false false, 9, 2, 20, 5⟩ := by decide +kernel

/-- 07, the same table: a transaction that starts at 1,009 has its response deadline at 1,014. -/
theorem test_pair_release_starts_the_deadline :
    let s := onlineAt 1009
    let tx : Transaction := ⟨.slot 3 .drumL false false false, 8, 2, 20, 5⟩
    (ran .pairRelease { s with sbm := ⟨.request tx, [], none⟩ }).sbm.bus = .response tx 1014 := by decide +kernel

/-- 03, reversing drum R: the governor before update 1, in RUN with a change pending. -/
def reversing : State :=
  let s := waiting .drumR 1005 (loadedCurves 400 (onlineAt 1000))
  { s with
    tst := { s.tst with active := { s.tst.active with drum := s.tst.load.drum } }
    nSet := 250
    governorR :=
      { resetGovernor with
        state := .run, speed := 10, integrator := 300, duty := 99, requested := .outward, prevUpdate := some 950 } }

/-- 03, reversing drum R, update 1: C 6, N_meas 11, I 220, duty 91. -/
theorem test_response_complete_ramps_drum_r :
    let g := (ran (.responseComplete (response 8 1 [11, 0, 0, 100, 0, 0, 0, 0])) reversing).governorR
    (g.speed, g.nMeas, g.integrator, g.duty, g.running) = (6, 11, 220, 91, .inward) := by decide +kernel

/-- 07, a timeout and an overrun: the third failure in a row makes the node LOST and posts NODE_LOST with value 1. -/
theorem test_response_timeout_loses_the_node :
    let s := waiting .drumL 1024 (onlineAt 1024)
    let t := ran .responseTimeout { s with sbm := { s.sbm with slots := [⟨1019, 2, .alive⟩] } }
    t.sbm.slots.map (fun x => (x.failures, x.node)) = [(3, .lost)]
      ∧ t.rpu.events.map (fun e => (e.kind, e.source, e.value)) = [(.nodeLost, .slot 1, 1)] := by decide +kernel

theorem test_quiet_end_grants_a_due_slot :
    let s := polling [rowOf 2 .inclA 20] (onlineAt 1000)
    (ran .quietEnd { s with sbm := { s.sbm with bus := .quiet 1000 } }).sbm.bus
      = .request ⟨.slot 1 .inclA false false false, 2, 2, 20, 5⟩ := by decide +kernel

/-- 04, a window of trips: at 102,000 the off-time of drum L ends, and under AUTO it enters RUN again with C 0. -/
theorem test_off_time_expiry_restarts_drum_l :
    let s := polling [rowOf 8 .drumL 5] (onlineAt 102000)
    let t :=
      ran (.offTimeExpiry (.drum .left))
        { s with governorL := { resetGovernor with state := .trip (.timing 102000), prot := ⟨[100000], true, true⟩ } }
    t.governorL.state = .run ∧ t.governorL.speed = 0 ∧ t.governorL.prot.latch = true := by decide +kernel

/-- The pump at a head time, in a state, with both deadlines of its timers reached. -/
def pumping (now : Nat) (p : PumpState) : State :=
  { onlineAt now with
    sru :=
      { resetSru with
        pump := p, duty := 500, primeDeadline := some (BitVec.ofNat 32 now), dryDeadline := some (BitVec.ofNat 32 now)
        level := 2, held := true, refreshDeadline := some (BitVec.ofNat 32 now) } }

/-- R101, R78: the prime deadline trips the pump with cause 1. -/
theorem test_prime_timeout_trips_with_cause_1 :
    let t := ran .primeTimeout (pumping 20000 .prime)
    t.sru.pump = .trip (.timing 25000) ∧ t.sru.duty = 0 ∧ t.rpu.events.map (fun e => (e.kind, e.value)) = [(.trip, 1)] := by
  decide +kernel

/-- R102, R78: the dry deadline trips the pump with cause 2. -/
theorem test_dry_timeout_trips_with_cause_2 :
    let t := ran .dryTimeout (pumping 20000 .run)
    t.sru.pump = .trip (.timing 25000) ∧ t.rpu.events.map (fun e => (e.kind, e.value)) = [(.trip, 2)] := by decide +kernel

/-- 05, build-up, feed hold and release: a refresh at 501,800 makes FEED HOLD 3,000 pending until 503,300. -/
theorem test_refresh_renews_the_hold :
    let t := ran .refreshDeadline (pumping 501800 .run)
    t.ulp.feedHold = some 3000 ∧ t.sru.refreshDeadline = some 503300 := by decide +kernel

/-- 06, a stuck plate and CLEAR: at 815,000 P3 at 310 is STUCK, RETRACT barred to 815,200. -/
theorem test_stroke_timeout_declares_p3_stuck :
    let t := ran (.strokeTimeout .p3) (boulder 815000 450 ⟨.extend, some 310, some 815000, none, false⟩)
    t.pps.plates.p3 = ⟨.stuck, some 310, none, some ⟨.retract, 815200⟩, true⟩
      ∧ t.rpu.events = [⟨.stuck, .plate .p3, 310, 815000, 815000, 1⟩] := by decide +kernel

/-- 06, positioning P2 and reversing it: at 703,200 the dwell ends, and the plate at 584 retracts toward 150. -/
theorem test_dwell_end_lets_the_plate_retract :
    (ran (.dwellEnd .p3) (boulder 703200 150 ⟨.hold, some 584, none, some ⟨.retract, 703200⟩, false⟩)).pps.plates.p3
      = ⟨.retract, some 584, some 718200, none, false⟩ := by decide +kernel

/-- R179: after a frame the hold goes out before an answer that waits. -/
theorem test_uplink_frame_end_sends_feed_hold_first :
    let s := onlineAt 1000
    let t :=
      ran .uplinkFrameEnd
        { s with
          ulp :=
            { s.ulp with
              uplink := .sending, tx := some ⟨0x81, 0, [], 2⟩, rate := 2, feedHold := some 3000
              answers := [⟨0x35, 1, .ok, []⟩] } }
    t.ulp.tx = some ⟨0x83, 0, [0xB8, 0x0B], 2⟩ ∧ t.ulp.feedHold = none ∧ t.ulp.answers.length = 1 := by decide +kernel

theorem test_sync_reply_end_falls_idle :
    (ran .syncReplyEnd (onlineAt 1000)).ulp.uplink = .idle := by decide +kernel

/-- 02, the worked case: ΔN −25 and the targets 450, 600, 150 and 0. -/
theorem test_bands_of_the_worked_case :
    let t : SteeringTable :=
      { params := { defaultSteeringTable.params with nX := 3, nY := 3, nT := 2 }
        bandsX := [⟨30, 10⟩, ⟨80, 25⟩, ⟨150, 45⟩], bandsY := [⟨20, 200⟩, ⟨50, 450⟩, ⟨100, 800⟩]
        bandsT := [⟨25, 150⟩, ⟨60, 400⟩] }
    differential t (-120) = -25 ∧ plateTargets t 65 40 = ⟨450, 600, 150, 0⟩ ∧ plateTargets t 120 70 = ⟨800, 1000, 400, 0⟩ := by
  decide +kernel

/-- 02, interpolating the plan: at 25,300 the target is (102, −51, 0). -/
theorem test_plan_at_25300 :
    planTarget ⟨2, [⟨5000, 0, 0, 0⟩, ⟨45000, 200, -100, 0⟩]⟩ 25300 = ⟨102, -51, 0⟩ := by decide +kernel

/-- 03, composing the targets, cases 1, 2, 3 and 5. -/
theorem test_composed_targets :
    [Drum.left, .right].map (composedTarget 250 280 (-25) 750) = [177, 196]
      ∧ [Drum.left, .right].map (composedTarget 250 280 70 1000) = [280, 210]
      ∧ [Drum.left, .right].map (composedTarget 30 280 (-100) 1000) = [0, 80]
      ∧ [Drum.left, .right].map (composedTarget 250 60 100 500) = [30, 0] := by decide +kernel

/-- 05, concentration: the five rows of the worked figures. -/
theorem test_concentrations :
    [concentration 1250 1050 2650, concentration 1400 1050 2650, concentration 1040 1050 2650,
        concentration 2800 1050 2650, concentration 1250 1400 2650] = [125, 218, 0, 1000, 0] := by decide +kernel

/-- 01, a vote: mX 1,200 with both, mT 70 of sensor A where they disagree. -/
theorem test_votes :
    let v := { resetVtr with accA := ⟨24200, 0, 1400, 20⟩, accB := ⟨23800, 0, -200, 20⟩ }
    vote defaultMountingTable.params v .x = 1200 ∧ vote defaultMountingTable.params v .twist = 70 := by decide +kernel

/-- 01, the estimate between stations: m_open 1,310 and S_face 2,553,000, which gives 13 (R23). -/
theorem test_live_offset :
    let r := { startRecord 11000 0 0 with index := 2, mX := 1200, sX := 1800000 }
    let v := { resetVtr with dFace := 11300, log := [r], accA := ⟨39000, 0, 0, 30⟩, accB := ⟨36960, 0, 0, 28⟩ }
    vote defaultMountingTable.params v .x = 1310 ∧ faceOffset defaultMountingTable.params v false = 13 := by decide +kernel

/-- 02, a prediction: 35 and 1,500 over 2,000 mm give 65; −1,250 over 200 mm adds −3 (R36). -/
theorem test_prediction : predicted 35 1500 2000 = 65 ∧ predicted 0 (-1250) 200 = -3 := by decide +kernel

/-- R121: with a dwell of 0 a plate that leaves EXTEND keeps no bar on EXTEND, and keeps one on RETRACT. -/
theorem test_motion_just_left_is_not_barred :
    (turnOff 9 0 .hold ⟨.extend, some 1, some 9, some ⟨.extend, 50⟩, false⟩).bar = none
      ∧ (turnOff 9 0 .hold ⟨.extend, some 1, some 9, some ⟨.retract, 50⟩, false⟩).bar = some ⟨.retract, 50⟩ := by decide

/-- R71: a returning governor is in OFF with the sample's N_meas; with no change pending either answer of the free value
gives the same one. -/
theorem test_governor_returns :
    (governorReturned true ⟨11, 0, 0⟩ { resetGovernor with state := .nofb }).nMeas = 11
      ∧ governorReturned true ⟨11, 0, 0⟩ { resetGovernor with state := .nofb }
        = governorReturned false ⟨11, 0, 0⟩ { resetGovernor with state := .nofb } := by decide +kernel

/-- R168, R170: the eight characters of the sync reply, each 0, 1, 0, … on the wire with parity 0 and stop 1. -/
theorem test_sync_reply :
    (uplinkSends (onlineAt 0)).map (fun x => (x.1.map linkBits, x.2))
      = some
          (List.replicate 8 [false, true, false, true, false, true, false, true, false, false, true], 38400) := by
  decide +kernel

/-- R133: the address character of node 5, least significant bit first, the marker 1. -/
theorem test_address_character :
    busBits ⟨true, 5, true⟩ = [false, true, false, true, false, false, false, false, false, true, true] := by decide +kernel

/-! ### States that meet the hypotheses of the statements, at the edges of their clauses -/

theorem witness_empty_queue_with_and_without_a_due_timer :
    (State.reset.pending = [] ∧ ∀ x ∈ timers State.reset, x.1 = false)
      ∧ (huntAt 250 0 0).pending = [] ∧ ∃ x ∈ timers (huntAt 250 0 0), x.1 = true := by decide +kernel

theorem witness_frame_of_120_bytes :
    (Instr.echo 1 (List.replicate 120 7)).wellFormed = true ∧ frameOf (.echo 1 (List.replicate 120 7)) ≠ none := by
  decide +kernel

theorem witness_characters_of_a_frame :
    (Instr.statusRequest 7).wellFormed = true
      ∧ encodeFrame (.statusRequest 7) = some [0xC3, 0x00, 0x34, 0x07, 0x2A, 0x75] ∧ (onlineAt 1000).ulp.link ≠ .hunt
      ∧ (onlineAt 1000).ulp.rx = .waitStart ∧ serveUplink (onlineAt 1000) = onlineAt 1000 := by
  refine ⟨rfl, by decide +kernel, by decide, rfl, rfl⟩

/-- ONLINE with a frame being gathered. -/
def gathering (chars : List Byte) : State :=
  let s := onlineAt 1000
  { s with ulp := { s.ulp with rx := .gathering chars } }

theorem witness_discards :
    (gathering []).ulp.link ≠ .hunt ∧ (gathering []).ulp.rx = .gathering []
      ∧ charError ⟨0x55, true, true⟩ = true ∧ charError ⟨0x55, false, false⟩ = true
      ∧ charError (goodChar 121) = false ∧ 120 < (goodChar 121).data.toNat
      ∧ (onlineAt 1000).ulp.rx = .waitStart ∧ (goodChar 0xC2).data ≠ 0xC3#8
      ∧ charError ⟨0xC3, true, true⟩ = true := by decide +kernel

/-- A STATUS REQUEST with a wrong CRC byte, a kind that is none, a TABLE OPEN without its byte, and a TABLE WRITE of one. -/
theorem witness_completion_failures :
    (gathering [0x00, 0x34, 0x07, 0x2A]).ulp.rx = .gathering (0x00#8 :: 0x34#8 :: 0x07#8 :: ([] ++ [0x2A#8]))
      ∧ [0x2A#8, 0x74#8] ≠ leBytes 2 (crc16 [0x00#8, 0x34#8, 0x07#8]).toNat
      ∧ [0x2A#8, 0x75#8] = leBytes 2 (crc16 [0x00#8, 0x34#8, 0x07#8]).toNat
      ∧ (0x36#8 : Byte).toNat ∉ downlinkKinds ∧ (0x34#8 : Byte).toNat ∈ downlinkKinds
      ∧ ((0x20#8 : Byte).toNat, 1) ∈ fixedLengths ∧ (0#8 : Byte).toNat ≠ 1 ∧ (1#8 : Byte).toNat < 2 := by decide +kernel

/-- ONLINE with answers waiting. -/
def answersWaiting (n : Nat) (s : State) : State :=
  { s with ulp := { s.ulp with answers := List.replicate n ⟨0x35, 0, .ok, []⟩ } }

/-- The access of the tests. -/
def someAccess : Access := ⟨31, .read, 0x20, 0, 4⟩

/-- A state with an outstanding access that waits. -/
def accessWaiting (s : State) : State := { s with sbm := { s.sbm with access := some someAccess } }

theorem witness_requests_not_executed :
    ((huntAt 0 0 0).ulp.link = .hunt ∧ frameOf (.headReset 1) ≠ none)
      ∧ (frameOf (.headReset 1) = some (0x3F#8, 1#8, []) ∧ (answersWaiting 7 (accessWaiting (onlineAt 0))).ulp.link ≠ .hunt
        ∧ 8 ≤ (answersWaiting 7 (accessWaiting (onlineAt 0))).ulp.answers.length
            + (if (answersWaiting 7 (accessWaiting (onlineAt 0))).sbm.access.isSome then 1 else 0)) := by decide +kernel

theorem witness_hunt_clauses :
    (huntAt 250 0 6).ulp.link = .hunt ∧ (huntAt 250 0 6).ulp.lockRun < 7 ∧ (huntAt 250 0 7).ulp.lockRun = 7
      ∧ (goodChar 0x55).data = 0x55#8 ∧ charError (goodChar 0x55) = false
      ∧ ¬((goodChar 0x54).data = 0x55#8 ∧ charError (goodChar 0x54) = false)
      ∧ (huntAt 250 0 6).ulp.dwellDeadline = some 250#32 ∧ reached 250#32 (huntAt 250 0 6).headTime = true := by
  decide +kernel

/-- ONLINE at a head time, with the link deadline and the status deadline reached. -/
def overdue (now : Nat) : State :=
  let s := onlineAt now
  { s with
    ulp := { s.ulp with linkDeadline := some s.headTime }
    rpu := { s.rpu with statusDeadline := some s.headTime } }

theorem witness_link_deadlines :
    ((overdue 500).ulp.link = .online ∧ (overdue 500).ulp.linkDeadline = some 500#32
        ∧ reached 500#32 (overdue 500).headTime = true)
      ∧ ((lossAt 500).ulp.link = .loss ∧ (lossAt 500).ulp.relockDeadline = some 500#32
        ∧ reached 500#32 (lossAt 500).headTime = true)
      ∧ ((overdue 500).ulp.link ≠ .hunt ∧ (overdue 500).rpu.statusDeadline = some 500#32) := by decide +kernel

theorem answerable_with_7_places (now : Nat) : answerable (answersWaiting 7 (onlineAt now)) :=
  ⟨(by decide : LinkState.online ≠ .hunt), (by decide : 7 + 0 < 8)⟩

theorem not_answerable_with_8_places (now : Nat) : ¬answerable (answersWaiting 8 (onlineAt now)) :=
  fun h => absurd h.2 (by decide : ¬(8 + 0 < 8))

/-- The default banks in range, row by row. -/
theorem defaults_in_range : bankInRange defaultTables := by
  have all : ∀ t : TableId, ∀ row : Fin 33, ∀ specs ∈ (rowSpecs t row.val).toList,
      inRange specs (rowFields defaultTables t row.val) = true := by
    intro t
    cases t <;> decide +kernel
  intro t row specs h
  have small : row < 33 := by
    cases t <;> simp only [rowSpecs] at h <;> (repeat' split at h) <;> first | omega | cases h
  exact all t ⟨row, small⟩ specs (by simp [h])

theorem online_banks_in_range (now : Nat) : banksInRange (onlineAt now) := ⟨defaults_in_range, defaults_in_range⟩

theorem witness_table_write_at_its_last_row :
    answerable (answersWaiting 7 (onlineAt 0)) ∧ banksInRange (answersWaiting 7 (onlineAt 0))
      ∧ tableIdOf 4#8 = some .plan ∧ rowSpecs .plan (32#8).toNat = some planRowSpecs
      ∧ inRange planRowSpecs [250000, -50000, 50000, -1800] = true
      ∧ readFields planRowSpecs (writeFields planRowSpecs [250000, -50000, 50000, -1800])
        = some [250000, -50000, 50000, -1800] :=
  ⟨answerable_with_7_places 0, online_banks_in_range 0, rfl, rfl, by decide +kernel, by decide +kernel⟩

theorem witness_written_row_reads_back :
    answerable (onlineAt 0) ∧ ∃ t, exec (.tableWrite 1 4 0 [32]) (onlineAt 0) = .next t ∧ answerable t :=
  ⟨⟨by decide, by decide⟩, _, rfl, ⟨by decide +kernel, by decide +kernel⟩⟩

theorem witness_table_requests :
    tableIdOf 0#8 = none ∧ tableIdOf 8#8 = none ∧ tableIdOf 7#8 = some .link ∧ rowSpecs .link (1#8).toNat = none
      ∧ rowSpecs .link (0#8).toNat = some linkSpecs ∧ 1 < (2#8).toNat
      ∧ failingRow (loadedCurves 180 (onlineAt 0)).tst.load .drum = some 11
      ∧ failingRow (loadedCurves 400 (onlineAt 0)).tst.load .drum = none := by decide +kernel

/-- The third row of a curve fails, named 11 of drum R; the second of two slots of one address fails (R161, R162). -/
theorem witness_failing_rows :
    RowFails (loadedCurves 180 (onlineAt 0)).tst.load .drum 11 ∧ bankInRange defaultTables
      ∧ RowFails { defaultTables with poll := (polling [rowOf 3 .aux 5, rowOf 3 .aux 5] State.reset).tst.active.poll } .poll 2 :=
  ⟨⟨2, .inr ⟨rfl, .inr ⟨by decide, by decide, _, _, rfl, rfl, by decide⟩⟩⟩, defaults_in_range,
    ⟨1, 0, _, _, rfl, by decide, by decide, rfl, rfl, .inl rfl⟩⟩

/-- Fields one byte too long are those of no row. -/
theorem witness_fields_of_no_row : ∀ vs, inRange planCountSpecs vs = true → writeFields planCountSpecs vs ≠ [1#8, 2#8] := by
  intro vs _ h
  match vs with
  | [] => exact absurd h (by decide)
  | v :: rest =>
    have := congrArg List.length h
    simp [planCountSpecs, writeFields, leInt, leBytes] at this

/-- A state whose load bank has counted poll rows. -/
def pollLoaded (rows : List PollRow) (s : State) : State :=
  { s with tst := { s.tst with load := { s.tst.load with poll := (polling rows s).tst.active.poll } } }

theorem witness_activations :
    (reversing.governorR.state ≠ .off ∧ failingRow reversing.tst.load .drum = none)
      ∧ ((onlineAt 0).governorL.state = .off ∧ (onlineAt 0).governorR.state = .off
        ∧ failingRow (loadedCurves 400 (onlineAt 0)).tst.load .drum = none)
      ∧ failingRow (onlineAt 0).tst.load .slurry = none
      ∧ (failingRow (pollLoaded [rowOf 1 .drumL 5, rowOf 31 .flap 20] (onlineAt 0)).tst.load .poll = none
        ∧ (pollLoaded [rowOf 1 .drumL 5, rowOf 31 .flap 20] (onlineAt 0)).sbm.bus = .idle
        ∧ (countedRows (pollLoaded [rowOf 1 .drumL 5, rowOf 31 .flap 20] (onlineAt 0)).tst.load.poll)[0]?
          = some (rowOf 1 .drumL 5)) := by decide +kernel

theorem witness_panel_fields :
    (250000#32).toNat ≤ 250000 ∧ -10000 ≤ (BitVec.ofInt 16 (-10000)).toInt ∧ (BitVec.ofInt 16 10000).toInt ≤ 10000
      ∧ ¬(250001#32).toNat ≤ 250000 ∧ ¬(BitVec.ofInt 16 10001).toInt ≤ 10000 := by decide +kernel

theorem witness_log_read_clauses :
    (64#8).toNat ≤ 64 ∧ 1 ≤ (1#8).toNat ∧ 64 < (65#8).toNat ∧ (0#8).toNat = 0
      ∧ (panelAt 10000 0).rpu.readout = none ∧ (0#16).toNat < (panelAt 10000 0).vtr.log.length
      ∧ (panelAt 10000 0).vtr.log.length ≤ (1#16).toNat := by decide +kernel

theorem witness_clear_selectors : (4#8).toNat ≤ 4 ∧ 4 < (5#8).toNat ∧ 3 ≤ (3#8).toNat ∧ (2#8).toNat ≤ 2 := by decide

theorem witness_node_access_operands :
    (1#8).toNat ≤ 1 ∧ 1 ≤ (31#8).toNat ∧ (31#8).toNat ≤ 31 ∧ 1 < (2#8).toNat ∧ (0#8).toNat = 0 ∧ 31 < (32#8).toNat
      ∧ (onlineAt 0).sbm.access = none ∧ (accessWaiting (onlineAt 0)).sbm.access ≠ none := by decide

theorem witness_echo_lengths :
    (List.replicate 118 (7 : Byte)).length ≤ 118 ∧ 118 < (List.replicate 119 (7 : Byte)).length
      ∧ answerable (answersWaiting 7 (onlineAt 0)) ∧ ¬answerable (answersWaiting 8 (onlineAt 0)) :=
  ⟨by decide, by decide, answerable_with_7_places 0, not_answerable_with_8_places 0⟩

theorem witness_head_reset_keeps_plates_or_stops_them :
    answerable (onlineAt 0) ∧ effectiveMode (onlineAt 0) ≠ .auto := ⟨⟨by decide, by decide⟩, by decide⟩

theorem witness_control_in_loss :
    (lossAt 0).ulp.link ≠ .hunt ∧ (lossAt 0).ulp.link = .loss
      ∧ Posted 0 .linkRestored .link ((lossAt 0).ulp.rate.val : Int) (lossAt 0).rpu.events
          [⟨.linkRestored, .link, 2, 0, 0, 1⟩] :=
  ⟨by decide, by decide, .inl ⟨by decide, by decide⟩⟩

/-- ONLINE with both drum nodes ALIVE, drum L as given. -/
def drumLeft (g : Governor) (s : State) : State := { polling [rowOf 8 .drumL 5, rowOf 9 .drumR 5] s with governorL := g }

theorem witness_drum_enable_clauses :
    ((drumLeft { resetGovernor with lastEnable := false } (onlineAt 0)).ulp.link ≠ .hunt
        ∧ (drumLeft { resetGovernor with lastEnable := false } (onlineAt 0)).governorL.state = .off
        ∧ roleAlive (drumRole .left) (drumLeft { resetGovernor with lastEnable := false } (onlineAt 0)) = true)
      ∧ (drumLeft resetGovernor (onlineAt 0)).governorL.lastEnable = true
      ∧ (drumLeft { resetGovernor with state := .run } (onlineAt 0)).governorL.state = .run
      ∧ (drumLeft { resetGovernor with state := .trip (.timing 0) } (onlineAt 0)).governorL.state = .trip (.timing 0) := by
  decide +kernel

theorem witness_pump_enable_clauses :
    ((onlineAt 0).sru.pump = .off ∧ (onlineAt 0).sru.lastEnable = true)
      ∧ ((pumping 0 .off).ulp.link ≠ .hunt ∧ (pumping 0 .prime).sru.pump = .prime ∧ (pumping 0 .lockout).sru.pump ≠ .run) := by
  decide

theorem witness_depth_taken_at_the_step : depthTaken (panelAt 10000 0) 10500 ∧ ¬depthTaken (panelAt 10000 0) 10501 := by
  refine ⟨⟨by decide, .inr (.inl ⟨10000, rfl, by decide⟩)⟩, ?_⟩
  intro h
  have := (depthAccepted_iff (panelAt 10000 0) 10501).mpr h
  revert this
  decide +kernel

theorem witness_depth_taken_at_the_end_of_the_range :
    depthTaken (onlineAt 0) 250000 ∧ ¬depthTaken (onlineAt 0) 250001 :=
  ⟨⟨by decide, .inl rfl⟩, fun h => absurd h.1 (by decide)⟩

theorem witness_depth_cases :
    (panelAt 10000 0).ulp.link = .online ∧ 10000 ≤ (panelAt 10000 0).vtr.dFace ∧ (onlineAt 0).vtr.state = .noPanel
      ∧ (panelAt 10000 0).vtr.state ≠ .noPanel ∧ (panelAt 10000 0).vtr.dFace < 10001
      ∧ (panelAt 10000 0).vtr.log.getLast?.map (fun r => r.depth) = some 10000 := by decide +kernel

/-- A panel whose log is full. -/
def fullPanel : State :=
  let s := panelAt 10000 0
  { s with vtr := { s.vtr with log := List.replicate 1024 ⟨1, 9000, 0, 0, 0, 0, 0, 0, ⟨false, false, false, false, false, false⟩⟩ } }

theorem witness_close_and_full_log :
    10499 < 10000 + (panelAt 10000 0).tst.active.mounting.params.stationInterval
      ∧ 10000 + (panelAt 10000 0).tst.active.mounting.params.stationInterval ≤ 10500
      ∧ (panelAt 10000 0).vtr.log.length < 1024 ∧ 1024 ≤ fullPanel.vtr.log.length
      ∧ fullPanel.vtr.log.getLast?.map (fun r => r.depth) = some 9000 := by decide +kernel

theorem witness_close_errors :
    RoundedQuotient 60000000 200000 ((300 : Int) + 0) ∧ (300 : Int).natAbs ≤ defaultSteeringTable.params.toleranceX
      ∧ RoundedQuotient 60200000 200000 ((301 : Int) + 0) ∧ defaultSteeringTable.params.toleranceX < (301 : Int).natAbs := by
  refine ⟨⟨?_, ?_⟩, by decide, ⟨?_, ?_⟩, by decide⟩ <;> intro _ <;> omega

theorem witness_close_disagreement :
    disagrees defaultMountingTable.params { resetVtr with accA := ⟨2001, 0, 51, 1⟩, accB := ⟨0, 0, 0, 1⟩ } .x = true
      ∧ disagrees defaultMountingTable.params { resetVtr with accA := ⟨2000, 0, 50, 1⟩, accB := ⟨0, 0, 0, 1⟩ } .x = false
      ∧ axisCode .x < axisCode .twist := by decide +kernel

theorem witness_bus_clauses :
    ((polling [rowOf 2 .aux 20] (onlineAt 0)).sbm.bus = .idle
        ∧ (polling [rowOf 2 .aux 20] (onlineAt 0)).sbm.slots[1 - 1]? = some ⟨0, 0, .alive⟩
        ∧ reached 0 (onlineAt 0).headTime = true)
      ∧ (waiting .aux 5 (onlineAt 0)).sbm.bus ≠ .idle
      ∧ (ran (.headReset 1) (onlineAt 0)).sbm.bus = .quiet 5#32 := by decide +kernel

/-- A state that waits for a response of a role, its node in a state. -/
def sampling (role : Role) (node : NodeState) (s : State) : State :=
  let t := waiting role 5 s
  { t with sbm := { t.sbm with slots := [⟨s.headTime, 0, node⟩] } }

/-- A good response of a role to such a state. -/
theorem sample_arrives (role : Role) (node : NodeState) (payload : List Byte) (now : Nat)
    (h : (match gatherResponse (response 8 1#8 payload) with
      | none => false
      | some r => decide (r.payload = payload) && decide (responseTags ⟨.slot 1 role false false false, 8, 2, 20, 5⟩ r = noTags))
        = true) :
    SampleArrives (sampling role node (onlineAt now)) (response 8 1#8 payload) 1 role false false payload
      ⟨BitVec.ofNat 32 now, 0, node⟩ (rowOf 8 role 50) := by
  cases hr : gatherResponse (response 8 1#8 payload) with
  | none => simp [hr] at h
  | some r =>
    simp only [hr, Bool.and_eq_true, decide_eq_true_eq] at h
    exact ⟨_, _, r, rfl, rfl, hr, h.2, h.1, by decide, rfl, rfl⟩

/-- Such a response comes to the consumer of its role, with the ALIVE notice for a node that was UNKNOWN. -/
theorem sample_comes (role : Role) (node : NodeState) (payload : List Byte) (now : Nat) (told : Bool)
    (hn : (told = true ↔ node ≠ .alive) ∧ node ≠ .lost)
    (h : SampleArrives (sampling role node (onlineAt now)) (response 8 1#8 payload) 1 role false false payload
      ⟨BitVec.ofNat 32 now, 0, node⟩ (rowOf 8 role 50)) :
    SampleComes (sampling role node (onlineAt now)) (response 8 1#8 payload) role payload told [] :=
  .inl ⟨1, false, false, _, _, h, hn.1, fun _ => rfl, fun hl => absurd hl hn.2⟩

/-- A response of a LOST node comes with NODE_RESTORED posted. -/
theorem sample_of_lost_comes (role : Role) (payload : List Byte) (now : Nat)
    (h : SampleArrives (sampling role .lost (onlineAt now)) (response 8 1#8 payload) 1 role false false payload
      ⟨BitVec.ofNat 32 now, 0, .lost⟩ (rowOf 8 role 50)) :
    SampleComes (sampling role .lost (onlineAt now)) (response 8 1#8 payload) role payload true
      [⟨.nodeRestored, .slot 1, 8, BitVec.ofNat 32 now, BitVec.ofNat 32 now, 1⟩] :=
  .inl ⟨1, false, false, _, _, h, by simp, fun hl => absurd rfl hl,
    fun _ => ⟨_, _, rfl, .inl ⟨(fun _ he => nomatch he), rfl⟩⟩⟩

/-- The bus waiting for a slot of a role of a replaced Poll Table, the deadline reached. -/
def replacingRole (role : Role) (s : State) : State :=
  { s with sbm := ⟨.response ⟨.slot 1 role false false true, 8, 2, 20, 5⟩ 5, [], none⟩ }

/-- A good response for it comes to the consumer of the role fixed at its grant. -/
theorem sample_of_replaced_comes (role : Role) (payload : List Byte) (s : State) (hs : s.rpu.events = [])
    (h : (match gatherResponse (response 8 1#8 payload) with
      | none => false
      | some r => decide (r.payload = payload) && decide (responseTags ⟨.slot 1 role false false true, 8, 2, 20, 5⟩ r = noTags))
        = true) :
    SampleComes (replacingRole role s) (response 8 1#8 payload) role payload false [] := by
  cases hr : gatherResponse (response 8 1#8 payload) with
  | none => simp [hr] at h
  | some r =>
    simp only [hr, Bool.and_eq_true, decide_eq_true_eq] at h
    exact .inr ⟨rfl, hs.symm, _, _, r, 1, false, false, rfl, rfl, hr, h.2, h.1⟩

theorem witness_good_responses :
    (∃ now, SampleArrives (sampling .aux .alive (onlineAt now)) (response 8 1#8 []) 1 .aux false false []
        ⟨BitVec.ofNat 32 now, 0, .alive⟩ (rowOf 8 .aux 50))
      ∧ ∃ now, SampleArrives (sampling .aux .lost (onlineAt now)) (response 8 1#8 [9]) 1 .aux false false [9]
        ⟨BitVec.ofNat 32 now, 0, .lost⟩ (rowOf 8 .aux 50) :=
  ⟨⟨0, sample_arrives .aux .alive [] 0 (by decide +kernel)⟩, ⟨0, sample_arrives .aux .lost [9] 0 (by decide +kernel)⟩⟩

/-- The bus waiting for a slot of a replaced Poll Table, the deadline reached. -/
def replacing : State :=
  let s := onlineAt 5
  { s with sbm := ⟨.response ⟨.slot 1 .aux false false true, 8, 2, 20, 5⟩ 5, [], none⟩ }

theorem witness_replaced_slots :
    replacing.sbm.bus = .response ⟨.slot 1 .aux false false true, 8, 2, 20, 5⟩ 5#32 ∧ reached 5#32 replacing.headTime = true
      ∧ (gatherResponse (response 8 1#8 [9])).map (responseTags ⟨.slot 1 .aux false false true, 8, 2, 20, 5⟩) = some noTags
      ∧ (gatherResponse (response 9 1#8 [9])).map (responseTags ⟨.slot 1 .aux false false true, 8, 2, 20, 5⟩)
        = some ⟨false, false, true, false, false⟩ := by decide +kernel

/-- A drum payload of 320.0 bar (3,200) and of one more; the node ALIVE, UNKNOWN, and of a replaced table. -/
theorem witness_drum_samples :
    SampleComes (sampling .drumL .alive (onlineAt 0)) (response 8 1#8 [11, 0, 0, 0x80, 0x0C, 0, 0, 0]) (drumRole .left)
        [11, 0, 0, 0x80, 0x0C, 0, 0, 0] false []
      ∧ SampleComes (sampling .drumL .unknown (onlineAt 0)) (response 8 1#8 [11, 0, 0, 0x80, 0x0C, 0, 0, 0])
        (drumRole .left) [11, 0, 0, 0x80, 0x0C, 0, 0, 0] true []
      ∧ SampleComes (replacingRole .drumL (onlineAt 5)) (response 8 1#8 [11, 0, 0, 0x80, 0x0C, 0, 0, 0]) (drumRole .left)
        [11, 0, 0, 0x80, 0x0C, 0, 0, 0] false []
      ∧ min 4000 (drumOf [11, 0, 0, 0x80, 0x0C, 0, 0, 0]).pressure ≤ defaultDrumTable.params.pTrip
      ∧ defaultDrumTable.params.pTrip < min 4000 (drumOf [11, 0, 0, 0x81, 0x0C, 0, 0, 0]).pressure
      ∧ driving { resetGovernor with state := .stopping } = true ∧ driving resetGovernor = false :=
  ⟨sample_comes .drumL .alive _ 0 false (by decide) (sample_arrives .drumL .alive _ 0 (by decide +kernel)),
    sample_comes .drumL .unknown _ 0 true (by decide) (sample_arrives .drumL .unknown _ 0 (by decide +kernel)),
    sample_of_replaced_comes .drumL _ _ rfl (by decide +kernel),
    by decide +kernel, by decide +kernel, by decide, by decide⟩

/-- An inclinometer payload with X −20,001, of an ALIVE and of a LOST node. -/
theorem witness_inclinometer_samples :
    SampleComes (sampling .inclA .alive (onlineAt 0)) (response 8 1#8 [0xDF, 0xB1, 0xFF, 0xFF, 0, 0, 0, 0, 0, 0, 0])
        (inclinometerRole .a) [0xDF, 0xB1, 0xFF, 0xFF, 0, 0, 0, 0, 0, 0, 0] false []
      ∧ SampleComes (sampling .inclA .lost (onlineAt 0)) (response 8 1#8 [0xDF, 0xB1, 0xFF, 0xFF, 0, 0, 0, 0, 0, 0, 0])
        (inclinometerRole .a) [0xDF, 0xB1, 0xFF, 0xFF, 0, 0, 0, 0, 0, 0, 0] true
        [⟨.nodeRestored, .slot 1, 8, 0#32, 0#32, 1⟩]
      ∧ (inclOf [0xDF, 0xB1, 0xFF, 0xFF, 0, 0, 0, 0, 0, 0, 0]).x = -20001
      ∧ (panelAt 10000 0).vtr.state = .advancing ∧ (panelAt 10000 0).vtr.accA.count < 65535 :=
  ⟨sample_comes .inclA .alive _ 0 false (by decide) (sample_arrives .inclA .alive _ 0 (by decide +kernel)),
    sample_of_lost_comes .inclA _ 0 (sample_arrives .inclA .lost _ 0 (by decide +kernel)),
    by decide +kernel, by decide, by decide⟩

/-- A SLURRY payload with a flow of 300, the default q_min; of a returning node, and of a replaced table with no slot. -/
theorem witness_slurry_samples :
    SampleComes (sampling .slurry .unknown (onlineAt 0)) (response 8 1#8 [0x2C, 1, 0xE2, 4, 0xD8, 0xFF, 0, 0, 0]) .slurry
        [0x2C, 1, 0xE2, 4, 0xD8, 0xFF, 0, 0, 0] true []
      ∧ SampleComes (replacingRole .slurry (onlineAt 5)) (response 8 1#8 [0x2C, 1, 0xE2, 4, 0xD8, 0xFF, 0, 0, 0]) .slurry
        [0x2C, 1, 0xE2, 4, 0xD8, 0xFF, 0, 0, 0] false []
      ∧ roleAlive .slurry (sampling .slurry .alive (onlineAt 0)) = true
      ∧ roleAlive .slurry (replacingRole .slurry (onlineAt 5)) = false
      ∧ (slurryOf [0x2C, 1, 0xE2, 4, 0xD8, 0xFF, 0, 0, 0]).flow = defaultSlurryTable.pump.qMin
      ∧ (slurryOf [0x2C, 1, 0xE2, 4, 0xD8, 0xFF, 0, 0, 0]).suction = defaultSlurryTable.pump.suctionMin :=
  ⟨sample_comes .slurry .unknown _ 0 true (by decide) (sample_arrives .slurry .unknown _ 0 (by decide +kernel)),
    sample_of_replaced_comes .slurry _ _ rfl (by decide +kernel),
    by decide +kernel, by decide +kernel, by decide +kernel, by decide +kernel⟩

theorem witness_flap_samples :
    SampleComes (sampling .flap .alive (onlineAt 0)) (response 8 1#8 [0xE8, 3, 0xE9, 3, 0, 0, 1, 0, 0]) .flap
        [0xE8, 3, 0xE9, 3, 0, 0, 1, 0, 0] false []
      ∧ SampleComes (sampling .flap .lost (onlineAt 0)) (response 8 1#8 [0xE8, 3, 0xE9, 3, 0, 0, 1, 0, 0]) .flap
        [0xE8, 3, 0xE9, 3, 0, 0, 1, 0, 0] true [⟨.nodeRestored, .slot 1, 8, 0#32, 0#32, 1⟩] :=
  ⟨sample_comes .flap .alive _ 0 false (by decide) (sample_arrives .flap .alive _ 0 (by decide +kernel)),
    sample_of_lost_comes .flap _ 0 (sample_arrives .flap .lost _ 0 (by decide +kernel))⟩

theorem witness_gathered_response :
    ([] : List BusChar).length = (⟨false, 0#8, true⟩ : BusChar).data.toNat
      ∧ RightLength (.slot 1 .aux false false false) 16 ∧ ¬RightLength (.slot 1 .drumL false false false) 9 :=
  ⟨rfl, (by decide : 16 ≤ 16), (by decide : ¬9 = 8)⟩

/-- A state that sends the request of an access. -/
def accessed (s : State) : State :=
  { s with sbm := { s.sbm with bus := .request ⟨.access someAccess, 31, 2, 20, 5⟩, access := some someAccess } }

/-- A state whose access waits for its response, the deadline reached. -/
def accessing : State :=
  let s := accessWaiting (onlineAt 5)
  { s with sbm := { s.sbm with bus := .response ⟨.access someAccess, 31, 2, 20, 5⟩ 5 } }

theorem witness_access_ends :
    accessing.sbm.bus = .response ⟨.access someAccess, 31, 2, 20, 5⟩ 5#32 ∧ reached 5#32 accessing.headTime = true
      ∧ (gatherResponse (response 31 2#8 [0x20, 1, 2])).map (responseTags ⟨.access someAccess, 31, 2, 20, 5⟩) = some noTags
      ∧ (gatherResponse (response 31 2#8 [0x21, 1, 2])).map (responseTags ⟨.access someAccess, 31, 2, 20, 5⟩)
        = some ⟨false, false, false, true, false⟩ := by decide +kernel

theorem witness_failures :
    (∀ tx deadline, (onlineAt 0).sbm.bus ≠ .response tx deadline)
      ∧ (sampling .drumL .alive (onlineAt 5)).sbm.bus = .response ⟨.slot 1 .drumL false false false, 8, 2, 20, 5⟩ 5#32
      ∧ reached 5#32 (sampling .drumL .alive (onlineAt 5)).headTime = true
      ∧ (gatherResponse (response 8 1#8 [1, 2])).map (responseTags ⟨.slot 1 .drumL false false false, 8, 2, 20, 5⟩)
        = some ⟨false, false, false, true, false⟩
      ∧ (3 ≤ min 15 (2 + 1) ∧ NodeState.alive ≠ .lost) ∧ ¬3 ≤ min 15 (1 + 1) :=
  ⟨(fun _ _ h => nomatch h), rfl, by decide +kernel, by decide +kernel, by decide, by decide⟩

theorem witness_off_times :
    reached 5#32 (onlineAt 5).headTime = true
      ∧ (drumLeft { resetGovernor with state := .trip (.timing 5) } (onlineAt 5)).governorL.state = .trip (.timing 5#32)
      ∧ (pumping 5 (.trip (.timing 5))).sru.pump = .trip (.timing 5#32) := by decide +kernel

theorem witness_slurry_timers :
    (pumping 5 .prime).sru.primeDeadline = some 5#32 ∧ (pumping 5 .run).sru.dryDeadline = some 5#32
      ∧ (pumping 5 .run).sru.held = true ∧ (pumping 5 .run).sru.refreshDeadline = some 5#32
      ∧ reached 5#32 (pumping 5 .run).headTime = true := by decide

theorem witness_plate_timers :
    let moved := boulder 5 450 ⟨.extend, some 430, some 5, none, false⟩
    let short := boulder 5 450 ⟨.extend, some 429, some 5, none, false⟩
    let held := boulder 5 450 ⟨.hold, some 429, none, some ⟨.retract, 5⟩, false⟩
    (moving moved.pps.plates.p3 = true ∧ moved.ulp.link = .online ∧ reached 5#32 moved.headTime = true
        ∧ targetOf moved.pps.mode moved.spl.targets moved.pps.manualTargets .p3 ≤ 430 + 20)
      ∧ 429 + 20 < targetOf short.pps.mode short.spl.targets short.pps.manualTargets .p3
      ∧ held.pps.plates.p3.bar = some ⟨.retract, 5#32⟩ := by decide +kernel

theorem witness_unarmed_timer : (false, Instr.linkTimeout) ∈ timers (onlineAt 0) := by decide +kernel

/-- ONLINE with the uplink idle and every source filled. -/
def sources : State :=
  let s := onlineAt 0
  { s with
    ulp :=
      { s.ulp with
        uplink := .idle, feedHold := some 0, answers := [⟨0x35, 0, .ok, []⟩], statusPending := true
        telemetry := [⟨1, .aux, 0, noTags, some []⟩] }
    rpu := { s.rpu with events := [⟨.linkLoss, .link, 0, 0, 0, 1⟩], readout := some ⟨0, 5⟩ } }

theorem witness_uplink_clauses :
    (sources.ulp.uplink = .idle ∧ sources.ulp.link ≠ .hunt ∧ sources.ulp.feedHold = some 0 ∧ sources.ulp.tx = none)
      ∧ ((ran .uplinkFrameEnd sources).ulp.uplink = .sending ∧ (ran .uplinkFrameEnd sources).ulp.feedHold = none
        ∧ (ran .uplinkFrameEnd sources).rpu.events ≠ [])
      ∧ (onlineAt 0).ulp.uplink = .sync := by decide +kernel

/-- The pairs: the sync reply under way, a frame in transmission, and a request on the bus. -/
theorem witness_pairs :
    ((onlineAt 0).ulp.tx = none ∧ (onlineAt 0).ulp.uplink = .sync)
      ∧ (ran .uplinkFrameEnd sources).ulp.tx = some ⟨0x83, 0, [0, 0], 0⟩
      ∧ (accessed (onlineAt 0)).sbm.bus = .request ⟨.access someAccess, 31, 2, 20, 5⟩ := by decide +kernel

theorem witness_means :
    (⟨0, 0, 0, 0⟩ : Accumulator).count = 0 ∧ (⟨-3, 0, 0, 2⟩ : Accumulator).count ≠ 0
      ∧ mean ⟨-3, 0, 0, 2⟩ .x = some (-2) := by decide +kernel

theorem witness_votes :
    let v := { resetVtr with accA := ⟨2000, 2001, 50, 1⟩, accB := ⟨0, 0, 0, 1⟩ }
    mean v.accA .x = some 2000 ∧ mean v.accB .x = some 0
      ∧ ((2000 : Int) - 0).natAbs ≤ (if Axis.x = .twist then 50 else 2000)
      ∧ (if Axis.y = .twist then 50 else 2000) < ((2001 : Int) - 0).natAbs
      ∧ mean resetVtr.accA .x = none := by decide +kernel

theorem witness_disagreement_at_the_limit :
    disagrees defaultMountingTable.params { resetVtr with accA := ⟨2000, 0, 51, 1⟩, accB := ⟨0, 0, 0, 1⟩ } .x = false
      ∧ disagrees defaultMountingTable.params { resetVtr with accA := ⟨2000, 0, 51, 1⟩, accB := ⟨0, 0, 0, 1⟩ } .twist = true
      ∧ disagrees defaultMountingTable.params { resetVtr with accA := ⟨2001, 0, 0, 1⟩ } .x = false := by decide +kernel

theorem witness_plan_rows :
    planCheck [⟨5000, 0, 0, 0⟩, ⟨45000, 200, -100, 0⟩] = none ∧ planCheck [] = none := by decide

theorem witness_bands : bandCheck 1 [⟨30, 10⟩, ⟨80, 25⟩, ⟨150, 45⟩] = none ∧ 80 ≤ 149 ∧ 149 < 150 ∧ 29 < 30 := by decide

theorem witness_curve :
    curveCheck 1 ((loadedCurves 400 (onlineAt 0)).tst.load.drum.curveL.take 3) = none
      ∧ (loadedCurves 400 (onlineAt 0)).tst.load.drum.curveL.take 3 = [⟨0, 80⟩, ⟨200, 450⟩, ⟨400, 900⟩] := by decide

theorem witness_composition :
    (0 = 0 ∨ 280 = 0) ∧ 1 ≤ 250 ∧ (70 : Int).natAbs ≤ 280 ∧ ((70 : Int).natAbs + 1) / 2 ≤ min 250 280
      ∧ composedTarget 250 280 70 1000 .left = 280 := by decide +kernel

theorem witness_slurry_figures : slurryHolds defaultSlurryTable = true ∧ (3 : Nat) ≤ 3 ∧ 1400 < 2000 := by decide

/-! ### States that meet the invariants -/

/-- A state with a moving plate, a running drum, a priming pump, a frame in transmission, and events. -/
def busy : State :=
  let s := panelAt 10000 0
  { s with
    governorL := { resetGovernor with state := .run, requested := .outward }
    sru := { resetSru with pump := .prime, primeDeadline := some 9 }
    pps := ⟨.auto, ⟨0, 0, 0, 0⟩, ⟨⟨.extend, some 3, some 9, none, false⟩, resetPlate, resetPlate, resetPlate⟩⟩
    ulp := { s.ulp with uplink := .sending, tx := some ⟨0x81, 0, [], 0⟩, answers := List.replicate 8 ⟨0x35, 0, .ok, []⟩ }
    rpu := { s.rpu with events := [⟨.linkLoss, .link, 0, 0, 0, 255⟩, ⟨.level, .sru, 1, 0, 0, 1⟩] }
    pending := [.echo 1 [2]] }

theorem witness_plates_safe : platesSafe busy ∧ ∃ t, step busy = .next t :=
  ⟨fun id => by cases id <;> exact ⟨by decide, by decide, by decide⟩, _, rfl⟩

theorem witness_tables_and_governors_safe :
    banksInRange busy ∧ activePasses busy ∧ governorsSafe busy ∧ speedsWithinLimit busy :=
  ⟨⟨defaults_in_range, defaults_in_range⟩, fun t => by cases t <;> decide +kernel,
    fun d => by cases d <;> exact ⟨by decide, by decide, by decide, by decide, by decide, by decide⟩,
    fun d => by cases d <;> decide⟩

theorem witness_slurry_safe : slurrySafe busy := by
  refine ⟨?_, ?_, ?_, ?_, ?_, ?_, ?_, ?_, ?_, ?_, ?_, ?_⟩ <;> decide

theorem witness_link_safe : linkSafe busy := by
  refine ⟨?_, ?_, ?_, ?_, ?_, ?_, ?_, ?_, ?_, ?_, ?_⟩ <;> decide

theorem witness_queues_safe : queuesSafe busy :=
  ⟨by decide, by decide, by decide, by decide, (fun _ h => nomatch h), by decide⟩

theorem witness_log_safe : logSafe busy := by
  refine ⟨by decide, ?_, by decide, by decide⟩
  intro i r h
  match i with
  | 0 =>
    cases h
    exact ⟨rfl, by decide⟩
  | i + 1 => cases h

theorem witness_guarded_state :
    let s := { onlineAt 0 with governorL := { resetGovernor with state := .lockout } }
    exec (.echo 1 []) s = .next (ran (.echo 1 []) s) ∧ s.governorL.state = .lockout := ⟨rfl, rfl⟩

end Sys2Proof.Tests
end

namespace Sys2Proof.Machine

/-! SUPPORT. The mean of a sensor, one equation for each case of its count (R14). -/

/-- Without a sample there is no mean on any axis. -/
theorem mean_of_count_eq_zero {a : Accumulator} (h : a.count = 0) (axis : Axis) : mean a axis = none :=
  if_pos h

/-- With samples the mean is the rounded quotient of the axis's sum by the count. -/
theorem mean_of_count_ne_zero {a : Accumulator} (h : a.count ≠ 0) (axis : Axis) :
    mean a axis = some (roundDiv (accSum a axis) a.count) :=
  if_neg h

/-- Settles O46, by the two cases of the count: the second is the mean's equation with what `roundDiv` rounds to, which
needs a positive divisor. -/
theorem sensorMeanIsRounded : Obligations.SensorMeanIsRounded := by
  unfold Obligations.SensorMeanIsRounded
  intro a axis
  constructor
  · intro hzero other
    exact mean_of_count_eq_zero hzero other
  · intro hne
    have hpos : 0 < a.count := Nat.pos_of_ne_zero hne
    exact ⟨roundDiv (accSum a axis) a.count, mean_of_count_ne_zero hne axis, roundDiv_rounded _ _ hpos⟩

end Sys2Proof.Machine

namespace Sys2Proof.Machine

open Sys2Proof.Safety

/-! SUPPORT. What a request frame runs, and what TABLE OPEN and TABLE READ do, one equation for each of their cases (R152,
R153, R160). -/

/-! ### A request frame -/

/-- A request frame that finds the link locked and an answer place free runs its body on the port that took the frame. -/
theorem exec_request_of_answerable {i : Instr} {body : State → State} {s : State}
    (hexec : exec i s = .next (serveUplink (takeFrame i s))) (hbody : ∀ t, executeFrame i t = ifAnswerable body t)
    (h : answerable s) : exec i s = .next (serveUplink (body { s with ulp := portAfterFrame s.ulp })) := by
  rw [hexec, takeFrame_eq i s h.1, hbody, ifAnswerable_run body s h]

/-- The step of a TABLE OPEN that is executed. -/
theorem exec_tableOpen_of_answerable (tag table : Byte) {s : State} (h : answerable s) :
    exec (.tableOpen tag table) s
      = .next (serveUplink (openTable tag table { s with ulp := portAfterFrame s.ulp })) :=
  exec_request_of_answerable rfl (fun _ => rfl) h

/-- The step of a TABLE READ that is executed. -/
theorem exec_tableRead_of_answerable (tag table bank row : Byte) (extra : List Byte) {s : State} (h : answerable s) :
    exec (.tableRead tag table bank row extra) s
      = .next (serveUplink (readTable tag table bank row extra { s with ulp := portAfterFrame s.ulp })) :=
  exec_request_of_answerable rfl (fun _ => rfl) h

/-! ### Copying one table -/

/-- The table copied is that of the source. -/
theorem sameTable_copyTable (id : TableId) (source b : Tables) : sameTable id (copyTable id source b) source := by
  cases id <;> rfl

/-- A table other than the one copied is as it was. -/
theorem sameTable_copyTable_of_ne {id other : TableId} (hne : other ≠ id) (source b : Tables) :
    sameTable other (copyTable id source b) b := by
  cases id <;> cases other <;> try contradiction
  all_goals rfl

/-- TABLE OPEN of a valid id copies that table to the load bank and answers OK with the id. -/
theorem openTable_of_tableIdOf {table : Byte} {id : TableId} (hid : tableIdOf table = some id) (tag : Byte) (s : State) :
    openTable tag table s
      = answer .tableOpen tag .ok [table] { s with tst := { s.tst with load := copyTable id s.tst.active s.tst.load } } := by
  simp only [openTable, hid]
  rfl

/-- Settles O12: the load bank with the table copied is the one that the statement asks for. -/
theorem tableOpenCopiesActiveBank : Obligations.TableOpenCopiesActiveBank := by
  unfold Obligations.TableOpenCopiesActiveBank
  intro tag table id s hs hid
  refine ⟨copyTable id s.tst.active s.tst.load, sameTable_copyTable id _ _,
    fun other hne => sameTable_copyTable_of_ne hne _ _, ?_⟩
  rw [exec_tableOpen_of_answerable tag table hs, openTable_of_tableIdOf hid]
  rfl

/-! ### Reading a row -/

@[simp] theorem bankOf_zero (x : Tst) : bankOf x 0#8 = some x.active := rfl
@[simp] theorem bankOf_one (x : Tst) : bankOf x 1#8 = some x.load := rfl

/-- A byte above 1 names no bank. -/
theorem bankOf_of_one_lt {bank : Byte} (h : 1 < bank.toNat) (x : Tst) : bankOf x bank = none := by
  unfold bankOf
  split
  case h_1 hzero => omega
  case h_2 hone => omega
  case h_3 => rfl

/-- A byte that is 0 or 1 names the active bank or the load bank. -/
theorem bankOf_of_eq_zero_or_one {bank : Byte} (h : bank = 0#8 ∨ bank = 1#8) (x : Tst) :
    bankOf x bank = some (if bank = 0#8 then x.active else x.load) := by
  obtain rfl | rfl := h
  · exact bankOf_zero x
  · exact bankOf_one x

section
variable {table row : Byte} {id : TableId} {specs : List FieldSpec}

/-- TABLE READ of a row of the table, from a bank that the byte names, answers OK with the row as that bank holds it. -/
theorem readTable_ok (hid : tableIdOf table = some id) (hspecs : rowSpecs id row.toNat = some specs) {bank : Byte}
    {b : Tables} {s : State} (hbank : bankOf s.tst bank = some b) (tag : Byte) :
    readTable tag table bank row [] s
      = answer .tableRead tag .ok (table :: bank :: row :: writeFields specs (rowFields b id row.toNat)) s := by
  simp only [readTable, hid, hspecs, hbank]

/-- TABLE READ of a row of the table, with a byte that names no bank or with more bytes, answers BAD_VALUE. -/
theorem readTable_badValue (hid : tableIdOf table = some id) (hspecs : rowSpecs id row.toNat = some specs) {bank : Byte}
    {extra : List Byte} {s : State} (hbad : bankOf s.tst bank = none ∨ extra ≠ []) (tag : Byte) :
    readTable tag table bank row extra s = answer .tableRead tag .badValue [] s := by
  simp only [readTable, hid, hspecs]
  split
  case h_1 hbank => simp [hbank] at hbad
  case h_2 => rfl

end

/-- Settles O14, by the two cases of the payload: a bank byte of 0 or 1 with no more bytes names the bank that is read,
and anything else is refused. -/
theorem tableReadReturnsRow : Obligations.TableReadReturnsRow := by
  unfold Obligations.TableReadReturnsRow
  intro tag table bank row extra id specs s hs hid hspecs
  constructor
  · intro hbank
    rw [exec_tableRead_of_answerable tag table bank row [] hs,
      readTable_ok hid hspecs (bankOf_of_eq_zero_or_one hbank _), answer_afterFrame]
    rfl
  · intro hbad
    rw [exec_tableRead_of_answerable tag table bank row extra hs,
      readTable_badValue hid hspecs (hbad.imp_left fun hbank => bankOf_of_one_lt hbank _), answer_afterFrame]
    rfl

end Sys2Proof.Machine

namespace Sys2Proof.Machine

open Sys2Proof.Safety

/-! SUPPORT. What a request frame does when it finds no free answer place, and what ECHO answers, one equation for each
of its cases (R177, R178). -/

/-! ### A request frame that is turned away -/

/-- A locked port that is not answerable has all its answer places occupied. -/
theorem places_full_of_not_answerable {s : State} (hlocked : s.ulp.link ≠ .hunt) (hfull : ¬answerable s) :
    8 ≤ s.ulp.answers.length + (if s.sbm.access.isSome then 1 else 0) :=
  Nat.le_of_not_lt fun hfree => hfull ⟨hlocked, hfree⟩

/-- A request frame that finds the link locked and no answer place free sets ANSWER_OVERFLOW, on the port that took the
frame, whatever its body is. -/
theorem exec_request_of_not_answerable {i : Instr} {body : State → State} {s : State}
    (hexec : exec i s = .next (serveUplink (takeFrame i s))) (hbody : ∀ t, executeFrame i t = ifAnswerable body t)
    (hlocked : s.ulp.link ≠ .hunt) (hfull : ¬answerable s) :
    exec i s
      = .next
          (serveUplink
            { s with
              ulp := { portAfterFrame s.ulp with summary := { s.ulp.summary with answerOverflow := true } } }) := by
  rw [hexec, takeFrame_eq i s hlocked, hbody, ifAnswerable_full body s (places_full_of_not_answerable hlocked hfull)]

/-! ### ECHO -/

/-- ECHO of a payload that fits an answer frame is answered OK with it. -/
theorem requestEcho_of_length_le {payload : List Byte} (hfits : payload.length ≤ 118) (tag : Byte) (s : State) :
    requestEcho tag payload s = answer .echo tag .ok payload s :=
  if_pos hfits

/-- ECHO of a payload too long for an answer frame is answered BAD_VALUE without payload. -/
theorem requestEcho_of_lt_length {payload : List Byte} (hlong : 118 < payload.length) (tag : Byte) (s : State) :
    requestEcho tag payload s = answer .echo tag .badValue [] s :=
  if_neg (Nat.not_le_of_lt hlong)

/-- The step of an ECHO that is executed. -/
theorem exec_echo_of_answerable (tag : Byte) (payload : List Byte) {s : State} (h : answerable s) :
    exec (.echo tag payload) s
      = .next (serveUplink (requestEcho tag payload { s with ulp := portAfterFrame s.ulp })) :=
  exec_request_of_answerable rfl (fun _ => rfl) h

/-- Settles O22, by whether an answer place is free and, when one is, by the two cases of the payload's length. -/
theorem echoAnswersItsPayload : Obligations.EchoAnswersItsPayload := by
  unfold Obligations.EchoAnswersItsPayload
  intro tag payload s hlocked
  constructor
  · intro hs
    constructor
    · intro hfits
      rw [exec_echo_of_answerable tag payload hs, requestEcho_of_length_le hfits, answer_afterFrame]
      rfl
    · intro hlong
      rw [exec_echo_of_answerable tag payload hs, requestEcho_of_lt_length hlong, answer_afterFrame]
      rfl
  · intro hfull
    exact exec_request_of_not_answerable rfl (fun _ => rfl) hlocked hfull

end Sys2Proof.Machine

namespace Sys2Proof.Machine

open Sys2Proof.Safety

/-! SUPPORT. What LOG READ answers and grants, one equation for each of its cases in the order they are checked (R188). -/

section
variable {first count : Nat} {s : State}

/-- LOG READ of a count outside 1 to 64 is answered BAD_VALUE. -/
theorem requestLogRead_badValue (hcount : count = 0 ∨ 64 < count) (tag : Byte) :
    requestLogRead tag first count s = answer .logRead tag .badValue [] s :=
  if_pos hcount

/-- LOG READ of a good count while a readout is active is answered BUSY, whatever its first index is. -/
theorem requestLogRead_busy (hcount : ¬(count = 0 ∨ 64 < count)) (hactive : s.rpu.readout ≠ none) (tag : Byte) :
    requestLogRead tag first count s = answer .logRead tag .busy [] s := by
  simp only [requestLogRead, if_neg hcount, if_pos (Option.isSome_iff_ne_none.mpr hactive)]

/-- LOG READ of a first index at or past the station count, with a good count and no active readout, is answered
RANGE. -/
theorem requestLogRead_range (hcount : ¬(count = 0 ∨ 64 < count)) (hidle : s.rpu.readout = none)
    (hpast : s.vtr.log.length ≤ first) (tag : Byte) :
    requestLogRead tag first count s = answer .logRead tag .range [] s := by
  simp only [requestLogRead, if_neg hcount, hidle, Option.isSome_none, Bool.false_eq_true, if_false, if_pos hpast]

/-- LOG READ that passes the three checks makes the readout active with the granted count, and is answered OK with that
count, the generation and the station count. -/
theorem requestLogRead_ok (hcount : ¬(count = 0 ∨ 64 < count)) (hidle : s.rpu.readout = none)
    (hbefore : first < s.vtr.log.length) (tag : Byte) :
    requestLogRead tag first count s
      = answer .logRead tag .ok
          (leBytes 1 (min count (s.vtr.log.length - first)) ++ leBytes 2 s.vtr.generation.toNat
            ++ leBytes 2 s.vtr.log.length)
          { s with rpu := { s.rpu with readout := some ⟨first, min count (s.vtr.log.length - first)⟩ } } := by
  simp only [requestLogRead, if_neg hcount, hidle, Option.isSome_none, Bool.false_eq_true, if_false,
    if_neg (Nat.not_le_of_lt hbefore)]
  rfl

end

/-- The step of a LOG READ that is executed. -/
theorem exec_logRead_of_answerable (tag : Byte) (first : BitVec 16) (count : Byte) {s : State} (h : answerable s) :
    exec (.logRead tag first count) s
      = .next (serveUplink (requestLogRead tag first.toNat count.toNat { s with ulp := portAfterFrame s.ulp })) :=
  exec_request_of_answerable rfl (fun _ => rfl) h

/-- Settles O19, by the three checks in their order: the count, the active readout, the first index. -/
theorem logReadStartsReadout : Obligations.LogReadStartsReadout := by
  unfold Obligations.LogReadStartsReadout
  intro tag first count s hs
  rw [exec_logRead_of_answerable tag first count hs]
  constructor
  · intro hcount
    rw [requestLogRead_badValue hcount, answer_afterFrame]
    rfl
  · intro hlow hhigh
    have hcount : ¬(count.toNat = 0 ∨ 64 < count.toNat) := by omega
    refine ⟨?busy, ?range, ?granted⟩
    case busy =>
      intro hactive
      rw [requestLogRead_busy (s := { s with ulp := portAfterFrame s.ulp }) hcount hactive, answer_afterFrame]
      rfl
    case range =>
      intro hidle hpast
      rw [requestLogRead_range (s := { s with ulp := portAfterFrame s.ulp }) hcount hidle hpast, answer_afterFrame]
      rfl
    case granted =>
      intro hidle hbefore
      rw [requestLogRead_ok (s := { s with ulp := portAfterFrame s.ulp }) hcount hidle hbefore]
      rfl

end Sys2Proof.Machine

namespace Sys2Proof.Machine

open Sys2Proof.Safety

/-! SUPPORT. What CLEAR does to each unit, and which of its fields a dispatched CLEAR sets (R87, R126, R190). -/

/-! ### CLEAR of one unit -/

/-- A governor named by CLEAR is cleared: only LOCKOUT and TRIP WAITING are left for OFF. -/
theorem governorCleared_cleared (g : Governor) : GovernorCleared g (governorCleared g) := by
  unfold governorCleared
  cases hstate : g.state with
  | off | run | stopping | nofb => simp [GovernorCleared, hstate, protectionAfterClear]
  | lockout => simp [GovernorCleared, hstate, protectionAfterClear, enterOff]
  | trip phase => cases phase <;> simp [GovernorCleared, hstate, protectionAfterClear, enterOff]

/-- The unit after CLEAR of the pump: history and latch empty, and LOCKOUT and TRIP WAITING left for OFF. -/
theorem clearPump_sru (s : State) :
    (clearPump s).sru
      = if s.sru.pump = .lockout ∨ s.sru.pump = .trip .waiting then
          { s.sru with
            pump := .off
            duty := 0
            primeDeadline := none
            dryDeadline := none
            prot := { s.sru.prot with history := [], latch := false } }
        else { s.sru with prot := { s.sru.prot with history := [], latch := false } } := by
  unfold clearPump
  cases hpump : s.sru.pump with
  | off | prime | run => simp [hpump, protectionAfterClear]
  | lockout => simp [hpump, protectionAfterClear, enterPumpOff]
  | trip phase => cases phase <;> simp [hpump, protectionAfterClear, enterPumpOff]

/-- A decision does not read the drums or the pump. -/
theorem decideFor_clearPump_onGovernors (f : Governor → Governor) (s : State) (id : PlateId) (p : Plate) :
    decideFor (clearPump (onGovernors f s)) id p = decideFor s id p := by
  simp [decideFor, plateTarget_eq]

/-- CLEAR of the positioner clears the latch of a plate that is not STUCK, and leaves its state. -/
theorem clearPlates_get_of_ne_stuck {s : State} {id : PlateId} (h : (s.pps.plates.get id).state ≠ .stuck) :
    (clearPlates s).pps.plates.get id = { s.pps.plates.get id with stuckLatch := false } := by
  simp [clearPlates, setPlates, h]

/-- CLEAR of the positioner takes a STUCK plate to HOLD with its latch clear, and decides for it as the mode says. -/
theorem clearPlates_get_of_stuck {s : State} {id : PlateId} (h : (s.pps.plates.get id).state = .stuck) :
    (clearPlates s).pps.plates.get id
      = decideFor s id { s.pps.plates.get id with state := .hold, stuckLatch := false } := by
  simp [clearPlates, setPlates, h]

/-- While FROZEN, a plate cleared from STUCK stays in HOLD. -/
theorem clearPlates_get_of_stuck_of_not_online {s : State} {id : PlateId}
    (hstuck : (s.pps.plates.get id).state = .stuck) (hlink : s.ulp.link ≠ .online) :
    (clearPlates s).pps.plates.get id = { s.pps.plates.get id with state := .hold, stuckLatch := false } := by
  rw [clearPlates_get_of_stuck hstuck, decideFor_frozen s id _ hlink]

/-- While ONLINE, a plate cleared from STUCK takes a decision in HOLD toward the target of the stored mode. -/
theorem clearPlates_decided_of_stuck_of_online {s : State} {id : PlateId}
    (hstuck : (s.pps.plates.get id).state = .stuck) (hlink : s.ulp.link = .online) :
    Decided s.headTime s.tst.active.steering.params (targetOf s.pps.mode s.spl.targets s.pps.manualTargets id)
      { s.pps.plates.get id with state := .hold, stuckLatch := false } ((clearPlates s).pps.plates.get id) := by
  rw [clearPlates_get_of_stuck hstuck, decideFor_online s id _ hlink]
  exact decidePlate_decided _ _ _ _

/-! ### The selector -/

/-- The byte value of a selector (R190). -/
def ClearSelector.code : ClearSelector → Nat
  | .drum .left => 0
  | .drum .right => 1
  | .pump => 2
  | .plates => 3
  | .all => 4

/-- A byte with the value of a selector names it. -/
theorem selectorOf_of_toNat_eq_code {selector : Byte} {x : ClearSelector} (h : selector.toNat = x.code) :
    selectorOf selector = some x := by
  unfold selectorOf
  rw [h]
  match x with
  | .drum .left | .drum .right | .pump | .plates | .all => rfl

/-- Two selectors have two values: the byte of a value names one selector. -/
theorem ClearSelector.code_inj {x y : ClearSelector} : x.code = y.code ↔ x = y := by
  refine ⟨fun hcode => ?_, congrArg _⟩
  have hbyte : (BitVec.ofNat 8 x.code).toNat = x.code := by
    match x with
    | .drum .left | .drum .right | .pump | .plates | .all => rfl
  have hx := selectorOf_of_toNat_eq_code hbyte
  have hy := selectorOf_of_toNat_eq_code (hbyte.trans hcode)
  exact Option.some.inj (hx.symm.trans hy)

/-- The values from 3 on are those of the selectors with the plates. -/
theorem ClearSelector.three_le_code_iff {x : ClearSelector} : 3 ≤ x.code ↔ x = .plates ∨ x = .all := by
  match x with
  | .drum .left | .drum .right | .pump | .plates | .all => simp [code]

/-- A byte above 4 names nothing. -/
theorem selectorOf_of_four_lt {selector : Byte} (h : 4 < selector.toNat) : selectorOf selector = none := by
  unfold selectorOf
  split
  case h_6 => rfl
  all_goals omega

/-- A number of at most 4 is the value of a selector. -/
theorem ClearSelector.exists_code_eq {n : Nat} (h : n ≤ 4) : ∃ x : ClearSelector, n = x.code :=
  match n, h with
  | 0, _ => ⟨.drum .left, rfl⟩
  | 1, _ => ⟨.drum .right, rfl⟩
  | 2, _ => ⟨.pump, rfl⟩
  | 3, _ => ⟨.plates, rfl⟩
  | 4, _ => ⟨.all, rfl⟩

/-! ### A dispatched CLEAR -/

section
variable {x : ClearSelector} {s : State}

/-- A drum that the selector names, alone or with all units, is cleared. -/
theorem dispatchClear_governor_of_named {d : Drum} (h : x = .drum d ∨ x = .all) :
    (dispatchClear x s).governor d = governorCleared (s.governor d) := by
  obtain rfl | rfl := h
  · simp [dispatchClear, onGovernor]
  · cases d <;> simp [dispatchClear, onGovernors, onGovernor]

/-- A drum that the selector does not name stays as it is. -/
theorem dispatchClear_governor_of_ne {d : Drum} (hdrum : x ≠ .drum d) (hall : x ≠ .all) :
    (dispatchClear x s).governor d = s.governor d := by
  cases x with
  | drum e =>
    have hne : d ≠ e := fun h => hdrum (h ▸ rfl)
    simp [dispatchClear, onGovernor, hne]
  | pump | plates => simp [dispatchClear]
  | all => contradiction

/-- The pump is cleared when the selector names it, alone or with all units. -/
theorem dispatchClear_sru :
    (dispatchClear x s).sru = if x = .pump ∨ x = .all then (clearPump s).sru else s.sru := by
  cases x <;> simp [dispatchClear, clearPump_sru]

/-- A selector without the plates leaves the positioner. -/
theorem dispatchClear_pps_of_ne (h : ¬(x = .plates ∨ x = .all)) : (dispatchClear x s).pps = s.pps := by
  cases x with
  | drum | pump => simp [dispatchClear]
  | plates | all => simp at h

/-- A plate after a CLEAR that names the plates, alone or with all units: the drums and the pump, cleared before it, do
not enter its decision. -/
theorem dispatchClear_plate_of_named (h : x = .plates ∨ x = .all) (id : PlateId) :
    (dispatchClear x s).pps.plates.get id = (clearPlates s).pps.plates.get id := by
  obtain rfl | rfl := h
  · rfl
  · simp [dispatchClear, clearPlates, setPlates, decideFor_clearPump_onGovernors]

/-- A dispatched CLEAR changes the drums, the pump and the plates only. -/
theorem dispatchClear_eq :
    dispatchClear x s
      = { s with
          governorL := (dispatchClear x s).governorL
          governorR := (dispatchClear x s).governorR
          sru := (dispatchClear x s).sru
          pps := { s.pps with plates := (dispatchClear x s).pps.plates } } := by
  have hpps : (dispatchClear x s).pps = { s.pps with plates := (dispatchClear x s).pps.plates } := by
    cases x <;> simp [dispatchClear, clearPlates, setPlates]
  exact State.eq_of_fields (by simp [← hpps])

end

/-- The step of a CLEAR that is executed. -/
theorem exec_clear_of_answerable (tag selector : Byte) {s : State} (h : answerable s) :
    exec (.clear tag selector) s
      = .next (serveUplink (requestClear tag selector { s with ulp := portAfterFrame s.ulp })) :=
  exec_request_of_answerable rfl (fun _ => rfl) h

/-- CLEAR with a byte that names no selector is answered BAD_VALUE and dispatched to no unit. -/
theorem requestClear_badValue {selector : Byte} (h : selectorOf selector = none) (tag : Byte) (s : State) :
    requestClear tag selector s = answer .clear tag .badValue [] s := by
  simp only [requestClear, h]

/-- CLEAR with a byte that names a selector is dispatched and answered OK. -/
theorem requestClear_ok {selector : Byte} {x : ClearSelector} (h : selectorOf selector = some x) (tag : Byte)
    (s : State) : requestClear tag selector s = answer .clear tag .ok [] (dispatchClear x s) := by
  simp only [requestClear, h]

/-- Settles O20: a byte of at most 4 is the value of a selector, and the state asked for is that of its dispatch with the
answer placed; each clause is then what the dispatch does to one unit. -/
theorem clearReleasesUnits : Obligations.ClearReleasesUnits := by
  unfold Obligations.ClearReleasesUnits
  intro tag selector s hs
  rw [exec_clear_of_answerable tag selector hs]
  constructor
  · intro hhigh
    rw [requestClear_badValue (selectorOf_of_four_lt hhigh), answer_afterFrame]
    rfl
  · intro hlow
    obtain ⟨x, hx⟩ := ClearSelector.exists_code_eq hlow
    have hall : x.code = 4 ↔ x = .all := ClearSelector.code_inj (y := .all)
    rw [requestClear_ok (selectorOf_of_toNat_eq_code hx), hx]
    refine ⟨_, rfl, ?drums, ?pump, ?otherUnits, ?plates, ?frame⟩
    case drums =>
      intro d
      have hdrum : x.code = (ClearSelector.drum d).code ↔ x = .drum d := ClearSelector.code_inj
      rw [answer_governor]
      constructor
      · intro hnamed
        have hx' : x = .drum d ∨ x = .all := hnamed.imp (by cases d <;> exact hdrum.mp) hall.mp
        rw [dispatchClear_governor_of_named hx']
        exact governorCleared_cleared _
      · intro hne hne'
        have hx' : x ≠ .drum d := mt hdrum.mpr (by cases d <;> exact hne)
        exact dispatchClear_governor_of_ne hx' (mt hall.mpr hne')
    case pump =>
      have hpump : x.code = 2 ↔ x = .pump := ClearSelector.code_inj (y := .pump)
      simp only [answer_sru, dispatchClear_sru, clearPump_sru, hpump, hall]
    case otherUnits =>
      intro hcode
      rw [answer_pps, dispatchClear_pps_of_ne (mt ClearSelector.three_le_code_iff.mpr (by omega))]
    case plates =>
      intro hcode id
      rw [answer_pps, dispatchClear_plate_of_named (ClearSelector.three_le_code_iff.mp hcode)]
      refine ⟨fun hfree => ?_, fun hstuck hoffline => ?_, fun hstuck honline => ?_⟩
      · exact clearPlates_get_of_ne_stuck hfree
      · exact clearPlates_get_of_stuck_of_not_online hstuck hoffline
      · exact clearPlates_decided_of_stuck_of_online hstuck honline
    case frame => exact congrArg (answer .clear tag .ok []) dispatchClear_eq

end Sys2Proof.Machine


namespace Sys2Proof.Machine

/-! SUPPORT. What a command does before the uplink arbiter is asked, and when a property of states is kept by every step:
each kind of command said once, so that an invariant is proved by the cases of its frames and of its events. -/

/-! ### The effect of a command -/

/-- What a frame does once it is executed, the check for a free answer place apart (R175). -/
def frameBody (i : Instr) (s : State) : State :=
  match i with
  | .control _ f => deliverControl f s
  | .tableOpen tag t => openTable tag t s
  | .tableWrite tag t row fields => writeTable tag t row fields s
  | .tableActivate tag t => activateTable tag t s
  | .tableRead tag t bank row extra => readTable tag t bank row extra s
  | .panelStart tag d0 ox oy => requestPanelStart tag d0.toNat ox.toInt oy.toInt s
  | .logRead tag first count => requestLogRead tag first.toNat count.toNat s
  | .clear tag selector => requestClear tag selector s
  | .nodeAccess tag address op register value => requestNodeAccess tag address op register value s
  | .statusRequest _ => requestStatus s
  | .echo tag payload => requestEcho tag payload s
  | .headReset tag => requestHeadReset tag s
  | _ => s

/-- Whether a frame is of an answered kind, which is executed only when an answer place is free (R177). -/
def answeredKind (i : Instr) : Bool :=
  match i with
  | .tableOpen _ _ => true
  | .tableWrite _ _ _ _ => true
  | .tableActivate _ _ => true
  | .tableRead _ _ _ _ _ => true
  | .panelStart _ _ _ _ => true
  | .logRead _ _ _ => true
  | .clear _ _ => true
  | .nodeAccess _ _ _ _ _ => true
  | .echo _ _ => true
  | .headReset _ => true
  | _ => false

/-- What the timers and the ends of transactions and transmissions do; nothing for the other commands. -/
def eventEffect (c : Instr) (s : State) : State :=
  match c with
  | .huntDwellExpiry => huntDwellEnds s
  | .linkTimeout => linkExpiry s
  | .relockTimeout => relockExpiry s
  | .statusDeadline => statusExpiry s
  | .slotDue slot => slotDueReached slot s
  | .pairRelease => releasePair s
  | .responseComplete chars => receiveResponse chars s
  | .responseTimeout => responseExpiry s
  | .quietEnd => quietExpiry s
  | .offTimeExpiry unit => offTimeEnds unit s
  | .primeTimeout => primeExpiry s
  | .dryTimeout => dryExpiry s
  | .refreshDeadline => refreshExpiry s
  | .strokeTimeout plate => strokeExpiry plate s
  | .dwellEnd plate => dwellExpiry plate s
  | .uplinkFrameEnd => frameEnd s
  | .syncReplyEnd => syncReplyDone s
  | _ => s

/-- What a command other than a hardware reset does before the uplink arbiter is asked: characters and discards act on
the port, frames are taken, and the rest are events. -/
def commandEffect (c : Instr) (s : State) : State :=
  match c with
  | .syncCharacter ch => receiveCharacter ch s
  | .frameDiscard _ => takeDiscard s
  | .frameGapTimeout => gapExpiry s
  | c => if (frameOf c).isSome then takeFrame c s else eventEffect c s

/-- A command other than a hardware reset has its effect, and the uplink arbiter is asked last. -/
theorem exec_eq {c : Instr} (h : c ≠ .hardwareReset) (s : State) :
    exec c s = .next (serveUplink (commandEffect c s)) := by
  cases c
  case hardwareReset => contradiction
  all_goals rfl

/-- A frame is executed, or it is of an answered kind and finds no free answer place. -/
theorem executeFrame_eq (i : Instr) (s : State) :
    executeFrame i s
      = if answeredKind i = true ∧ answerPlaces ≤ occupiedPlaces s then latchOverflow s else frameBody i s := by
  by_cases hfree : occupiedPlaces s < answerPlaces
  · have hle : ¬answerPlaces ≤ occupiedPlaces s := Nat.not_le_of_lt hfree
    cases i <;> simp [executeFrame, frameBody, ifAnswerable, hfree, hle]
  · have hle : answerPlaces ≤ occupiedPlaces s := Nat.le_of_not_lt hfree
    cases i <;> simp [executeFrame, frameBody, answeredKind, ifAnswerable, hfree, hle]

/-! ### The end of a transaction -/

/-- Characters of a response change nothing, or they end the transaction that waits for them. -/
theorem receiveResponse_cases (chars : List BusChar) (s : State) :
    receiveResponse chars s = s
      ∨ ∃ tx deadline r, s.sbm.bus = .response tx deadline ∧ gatherResponse chars = some r
          ∧ receiveResponse chars s = endTransaction tx (responseTags tx r) r.payload s := by
  unfold receiveResponse
  split
  next tx deadline hbus =>
    split
    · exact .inl rfl
    · next r hr => exact .inr ⟨tx, deadline, r, hbus, hr, rfl⟩
  all_goals exact .inl rfl

/-- The response deadline changes nothing, or it ends the transaction that waits for a response. -/
theorem responseExpiry_cases (s : State) :
    responseExpiry s = s
      ∨ ∃ tx deadline, s.sbm.bus = .response tx deadline ∧ reached deadline s.headTime = true
          ∧ responseExpiry s = endTransaction tx timeoutTags [] s := by
  unfold responseExpiry
  split
  next tx deadline hbus =>
    split
    · next hr => exact .inr ⟨tx, deadline, hbus, hr, rfl⟩
    · exact .inl rfl
  all_goals exact .inl rfl

/-! ### Properties that every step keeps -/

/-- A property of states is kept by everything a step is made of: the reset, the model's own fields, the arbiter, the
characters and frames of the downlink, and the events. -/
structure KeptByStep (P : State → Prop) : Prop where
  reset : P State.reset
  own : ∀ (s : State) (t : HeadTime) (q : List Instr) (n : Nat), P s → P { s with headTime := t, pending := q, freeSeq := n }
  serve : ∀ s : State, P s → P (serveUplink s)
  hunt : ∀ (c : LinkChar) (s : State), s.ulp.link = .hunt → P s → P (huntCharacter c s)
  gather : ∀ (s : State) (chars : List Byte), s.ulp.link ≠ .hunt → P s →
    P (s.setUlp { s.ulp with rx := .gathering chars })
  accept : ∀ s : State, s.ulp.link ≠ .hunt → P s → P (acceptFrame s)
  discard : ∀ s : State, s.ulp.link ≠ .hunt → P s → P (discardFrame s)
  overflow : ∀ s : State, P s → P (latchOverflow s)
  frame : ∀ (i : Instr) (s : State), s.ulp.link ≠ .hunt →
    (answeredKind i = true → occupiedPlaces s < answerPlaces) → P s → P (frameBody i s)
  event : ∀ (c : Instr) (s : State), P s → P (eventEffect c s)

namespace KeptByStep

variable {P : State → Prop}

/-- A valid frame keeps what is kept by each of its parts. -/
theorem takeFrame (k : KeptByStep P) (i : Instr) {s : State} (h : P s) : P (takeFrame i s) := by
  unfold Machine.takeFrame
  split
  · exact h
  · next hlink =>
    have ha := k.accept s hlink h
    rw [executeFrame_eq]
    split
    · exact k.overflow _ ha
    · next hfull =>
      refine k.frame i _ hlink (fun hk => Nat.lt_of_not_le fun hle => hfull ⟨hk, hle⟩) ha

/-- A discard keeps what it keeps in ONLINE and LOSS. -/
theorem takeDiscard (k : KeptByStep P) {s : State} (h : P s) : P (takeDiscard s) := by
  unfold Machine.takeDiscard
  split
  · exact h
  · next hlink => exact k.discard s hlink h

/-- A character of the downlink keeps what its parts keep: it counts for the lock run, is gathered, is discarded with its
frame, or completes it. -/
theorem receiveCharacter (k : KeptByStep P) (c : LinkChar) {s : State} (h : P s) : P (receiveCharacter c s) := by
  unfold Machine.receiveCharacter
  split
  · next hlink => exact k.hunt c s hlink h
  · next hlink =>
    cases hrx : s.ulp.rx with
    | waitStart =>
      simp only [assembleCharacter, hrx]
      split
      · exact k.gather s [] hlink h
      · exact h
    | gathering chars =>
      simp only [assembleCharacter, hrx]
      split
      · exact k.discard s hlink h
      split
      · exact k.discard s hlink h
      split
      · exact k.gather s _ hlink h
      split
      · exact k.discard s hlink h
      · exact k.takeFrame _ h

/-- Every command but a hardware reset keeps it, before the arbiter is asked. -/
theorem commandEffect (k : KeptByStep P) (c : Instr) {s : State} (h : P s) : P (commandEffect c s) := by
  unfold Machine.commandEffect
  split
  · exact k.receiveCharacter _ h
  · exact k.takeDiscard h
  · unfold gapExpiry
    split
    · exact h
    · exact k.takeDiscard h
  · split
    · exact k.takeFrame _ h
    · exact k.event _ _ h

/-- Every command keeps it. -/
theorem exec (k : KeptByStep P) {c : Instr} {s t : State} (h : P s) (he : exec c s = .next t) : P t := by
  by_cases hc : c = .hardwareReset
  · subst hc
    cases he
    exact k.own _ _ _ _ k.reset
  · rw [exec_eq hc] at he
    cases he
    exact k.serve _ (k.commandEffect c h)

/-- A step on an empty queue keeps it. -/
theorem idle (k : KeptByStep P) {s : State} (h : P s) : P (idle s) := by
  unfold Machine.idle
  split
  · exact k.own s _ s.pending s.freeSeq h
  · exact k.own s s.headTime _ _ h

/-- Every step keeps it. -/
theorem step (k : KeptByStep P) {s t : State} (h : P s) (he : step s = .next t) : P t := by
  unfold Machine.step at he
  split at he
  · cases he
    exact k.idle h
  · exact k.exec (k.own s s.headTime _ s.freeSeq h) he

end KeptByStep

end Sys2Proof.Machine

namespace Sys2Proof.Machine

open Sys2Proof.Safety

/-! SUPPORT. What the blocks may do to the link port and the Report Unit: set latches and slots, place telemetry records and
post events. What is left out, the link state with its timers, the assembly, the answers and the transmission, belongs to
the commands of the link alone. -/

/-- An event queue is reached from another by posts (R186). -/
def PostsOnly : List EventEntry → List EventEntry → Prop :=
  Relation.ReflTransGen fun a b => ∃ now kind source value, b = postEntry now kind source value a

/-- A telemetry queue is reached from another by placing records (R180). -/
def PlacesOnly : List TelemetryRecord → List TelemetryRecord → Prop :=
  Relation.ReflTransGen fun a b => ∃ r, b = placeRecord r a

/-- The port and the Report Unit keep all but their latches, the FEED HOLD and STATUS slots, the readout, the records
placed and the events posted. -/
structure PortKept (s t : State) : Prop where
  ulp :
    t.ulp
      = { s.ulp with
          telemetry := t.ulp.telemetry
          feedHold := t.ulp.feedHold
          statusPending := t.ulp.statusPending
          summary := t.ulp.summary }
  deadline : t.rpu.statusDeadline = s.rpu.statusDeadline
  events : PostsOnly s.rpu.events t.rpu.events
  telemetry : PlacesOnly s.ulp.telemetry t.ulp.telemetry

namespace PortKept

theorem of_eq {s t : State} (hulp : t.ulp = s.ulp) (hrpu : t.rpu = s.rpu) : PortKept s t :=
  ⟨by rw [hulp], by rw [hrpu], by rw [hrpu]; exact .refl, by rw [hulp]; exact .refl⟩

theorem refl (s : State) : PortKept s s := of_eq rfl rfl

theorem trans {s t u : State} (h : PortKept s t) (k : PortKept t u) : PortKept s u :=
  ⟨by rw [k.ulp, h.ulp], k.deadline.trans h.deadline, h.events.trans k.events, h.telemetry.trans k.telemetry⟩

/-- The same as `trans`, the last part first. -/
theorem after {s t u : State} (k : PortKept t u) (h : PortKept s t) : PortKept s u := trans h k

theorem link {s t : State} (h : PortKept s t) : t.ulp.link = s.ulp.link := by rw [h.ulp]

theorem answers {s t : State} (h : PortKept s t) : t.ulp.answers = s.ulp.answers := by rw [h.ulp]

variable (s : State)

theorem post (k : EventKind) (c : EventSource) (v : Int) : PortKept s (post k c v s) :=
  ⟨rfl, rfl, .single ⟨_, k, c, v, rfl⟩, .refl⟩

theorem latchClamped (b : Bool) : PortKept s (latchClamped b s) := by
  cases b
  · exact refl s
  · exact ⟨rfl, rfl, .refl, .refl⟩

theorem latchOverrun (b : Bool) : PortKept s (latchOverrun b s) := by
  cases b
  · exact refl s
  · exact ⟨rfl, rfl, .refl, .refl⟩

theorem latchOverflow : PortKept s (latchOverflow s) := ⟨rfl, rfl, .refl, .refl⟩

/-! ### The drums and the pump -/

theorem accountUpdate (cut returned : Nat) : PortKept s (accountUpdate cut returned s) where
  ulp := by rw [accountUpdate_ulp]
  deadline := by rw [accountUpdate_rpu]
  events := by
    rw [accountUpdate_rpu]
    split
    · exact .refl
    · exact .single ⟨_, _, _, _, rfl⟩
  telemetry := by
    rw [accountUpdate_ulp]
    exact .refl

theorem slurrySample (x : SlurrySample) : PortKept s (slurrySample x s) :=
  trans (of_eq (by simp) (by simp)) (accountUpdate _ _ _)

theorem tripPump (cause : PumpCause) : PortKept s (tripPump cause s) :=
  trans (of_eq (by simp) (by simp)) (post _ _ _ _)

theorem tripDrum (d : Drum) (pressure : Nat) : PortKept s (tripDrum d pressure s) :=
  trans (of_eq (by simp) (by simp)) (post _ _ _ _)

theorem drumSample (d : Drum) (x : DrumSample) : PortKept s (drumSample d x s) := by
  rw [drumSample_eq d x s _ rfl]
  split
  · split
    · exact trans (of_eq (by simp) (by simp)) (tripDrum _ _ _)
    · exact of_eq (by simp) (by simp)
  · exact of_eq (by simp) (by simp)

theorem primeExpiry : PortKept s (primeExpiry s) := by
  unfold Machine.primeExpiry
  split
  · exact tripPump s _
  · exact refl s

theorem dryExpiry : PortKept s (dryExpiry s) := by
  unfold Machine.dryExpiry
  split
  · exact tripPump s _
  · exact refl s

theorem refreshExpiry : PortKept s (refreshExpiry s) := by
  unfold Machine.refreshExpiry
  split
  · exact ⟨rfl, rfl, .refl, .refl⟩
  · exact refl s

theorem offTimeEnds (u : ProtectedUnit) : PortKept s (offTimeEnds u s) := by
  cases u <;> exact of_eq (by simp [Machine.offTimeEnds]) (by simp [Machine.offTimeEnds])

theorem strokeExpiry (id : PlateId) : PortKept s (strokeExpiry id s) := by
  simp only [Machine.strokeExpiry]
  split
  · split
    · exact of_eq rfl rfl
    · exact (post _ _ _ _).after (of_eq rfl rfl)
  · exact refl s

/-! ### The sensor bus -/

theorem deliverSample (role : Role) (payload : List Byte) : PortKept s (deliverSample role payload s) := by
  cases role with
  | drumL | drumR => exact drumSample s _ _
  | slurry => exact slurrySample s _
  | inclA | inclB | flap | aux => exact of_eq (by simp [Machine.deliverSample]) (by simp [Machine.deliverSample])

theorem drumSampleWithNotice (d : Drum) (x : DrumSample) : PortKept s (drumSampleWithNotice d x s) := by
  unfold Machine.drumSampleWithNotice
  split
  · exact of_eq (by simp) (by simp)
  · exact drumSample s _ _

theorem deliverWithNotice (role : Role) (payload : List Byte) : PortKept s (deliverWithNotice role payload s) := by
  cases role with
  | drumL | drumR => exact drumSampleWithNotice s _ _
  | inclA | inclB | slurry => simpa only [Machine.deliverWithNotice] using deliverSample s _ payload
  | flap | aux => exact of_eq (by simp [Machine.deliverWithNotice]) (by simp [Machine.deliverWithNotice])

theorem lostNotice (role : Role) : PortKept s (lostNotice role s) := of_eq (by simp) (by simp)

theorem slotGood (num address : Nat) : PortKept s (slotGood num address s) := by
  simp only [Machine.slotGood]
  split
  · exact trans (of_eq (by simp) (by simp)) (post _ _ _ _)
  · exact of_eq (by simp) (by simp)

theorem slotBad (num : Nat) (role : Role) (tags : TagSet) : PortKept s (slotBad num role tags s) := by
  simp only [Machine.slotBad]
  split
  · exact refl s
  · split
    · exact trans (of_eq (by simp) (by simp)) (trans (post _ _ _ _) (lostNotice _ _))
    · exact of_eq (by simp) (by simp)

theorem setDue (num : Nat) : PortKept s (setDue num s) := by
  unfold Machine.setDue
  split
  · exact trans (of_eq (by simp) (by simp)) (latchOverrun _ _)
  · exact refl s

theorem endLiveSlot (num address : Nat) (role : Role) (tags : TagSet) (payload : List Byte) :
    PortKept s (endLiveSlot num address role tags payload s) := by
  simp only [Machine.endLiveSlot]
  split
  · have hserved := trans (slotGood s num address) (setDue _ num)
    split
    · exact trans hserved (deliverSample _ _ _)
    · exact trans hserved (deliverWithNotice _ _ _)
  · exact trans (slotBad _ _ _ _) (setDue _ _)

theorem relay (num : Nat) (role : Role) (relayBad noRelay : Bool) (tags : TagSet) (payload : List Byte) :
    PortKept s (relay num role relayBad noRelay tags payload s) := by
  unfold Machine.relay
  split
  · exact ⟨rfl, rfl, .refl, .single ⟨_, rfl⟩⟩
  · exact refl s

theorem endSlot (num address : Nat) (role : Role) (relayBad noRelay orphan : Bool) (tags : TagSet)
    (payload : List Byte) : PortKept s (endSlot num address role relayBad noRelay orphan tags payload s) := by
  unfold Machine.endSlot
  refine trans ?_ (relay _ _ _ _ _ _ _)
  split
  · split
    · exact deliverSample s _ _
    · exact refl s
  · exact endLiveSlot s _ _ _ _ _

/-! ### Frames -/

theorem fieldsTaken (f : ControlFields) : PortKept s (fieldsTaken f s) := ⟨rfl, rfl, .refl, .refl⟩

theorem toleranceTest : PortKept s (toleranceTest s) := by
  simp only [Machine.toleranceTest]
  split <;> split
  · exact (post _ _ _ _).after (post _ _ _ _)
  · exact post _ _ _ _
  · exact post _ _ _ _
  · exact refl s

theorem postDisagree (m : MountingParams) (v : Vtr) (axis : Axis) : PortKept s (postDisagree m v axis s) := by
  unfold Machine.postDisagree
  split
  · exact post _ _ _ _
  · exact refl s

theorem setVtr (v : Vtr) : PortKept s (s.setVtr v) := of_eq rfl rfl

theorem evaluate : PortKept s (evaluate s) := of_eq rfl rfl

theorem closeStation (r : StationRecord) (d : Nat) : PortKept s (closeStation r d s) := by
  simp only [Machine.closeStation]
  exact (evaluate _).after <| (toleranceTest _).after <| (setVtr _ _).after <| (postDisagree _ _ _ _).after <|
    (postDisagree _ _ _ _).after (postDisagree _ _ _ _)

theorem closeTest (d : Nat) : PortKept s (closeTest d s) := by
  unfold Machine.closeTest
  split
  · exact refl s
  split
  · split
    · exact closeStation s _ _
    · unfold refuseClose
      split
      · exact (post _ _ _ _).after (of_eq rfl rfl)
      · exact refl s
  · exact refl s

theorem advanceFace (d : Nat) : PortKept s (advanceFace d s) :=
  (closeTest _ _).after ((accountUpdate _ _ _).after (of_eq rfl rfl))

theorem takeDepth (v : Nat) : PortKept s (takeDepth v s) := by
  unfold Machine.takeDepth
  split
  · simp only [acceptDepth]
    split
    · exact of_eq rfl rfl
    split
    · exact (advanceFace _ _).after (of_eq rfl rfl)
    · exact of_eq rfl rfl
  · exact (post _ _ _ _).after (of_eq rfl rfl)

theorem startPanel (d0 : Nat) (ox oy : Int) : PortKept s (startPanel d0 ox oy s) := by
  unfold Machine.startPanel
  exact ⟨by simp, by simp, by simp; exact .refl, by simp; exact .refl⟩

end PortKept

end Sys2Proof.Machine

namespace Sys2Proof.Machine

open Sys2Proof.Safety

/-! SUPPORT. What the commands leave of the link state, and when a property of the head, that is of the blocks below the
port and of the link state, is kept by every step. -/

/-! ### The link state -/

@[simp] theorem huntDwellEnds_link (s : State) : (huntDwellEnds s).ulp.link = s.ulp.link := by
  unfold huntDwellEnds
  split <;> rfl

@[simp] theorem statusExpiry_link (s : State) : (statusExpiry s).ulp.link = s.ulp.link := by
  unfold statusExpiry
  split <;> simp

@[simp] theorem frameEnd_link (s : State) : (frameEnd s).ulp.link = s.ulp.link := by
  unfold frameEnd
  repeat' split
  all_goals rfl

@[simp] theorem syncReplyDone_link (s : State) : (syncReplyDone s).ulp.link = s.ulp.link := by
  unfold syncReplyDone
  split <;> rfl

@[simp] theorem takeSource_link (x : UplinkSource) (s : State) : (takeSource x s).ulp.link = s.ulp.link := by
  cases x <;> rfl

@[simp] theorem serveUplink_link (s : State) : (serveUplink s).ulp.link = s.ulp.link := by
  unfold serveUplink
  split
  · split
    · rfl
    · simp [startFrame]
  · rfl

@[simp] theorem discardFrame_link (s : State) : (discardFrame s).ulp.link = s.ulp.link := by
  unfold discardFrame
  simp only
  split <;> rfl

@[simp] theorem acceptFrame_link (s : State) : (acceptFrame s).ulp.link = s.ulp.link := rfl

@[simp] theorem latchOverflow_link (s : State) : (latchOverflow s).ulp.link = s.ulp.link := rfl

@[simp] theorem answer_link (k : DownlinkKind) (tag : Byte) (r : ResultCode) (p : List Byte) (s : State) :
    (answer k tag r p s).ulp.link = s.ulp.link := rfl

@[simp] theorem requestHeadReset_link (tag : Byte) (s : State) : (requestHeadReset tag s).ulp.link = s.ulp.link := by
  simp [requestHeadReset, headResetUlp]

@[simp] theorem setDue_link (num : Nat) (s : State) : (setDue num s).ulp.link = s.ulp.link := (PortKept.setDue s num).link

@[simp] theorem relay_link (num : Nat) (role : Role) (relayBad noRelay : Bool) (tags : TagSet) (payload : List Byte)
    (s : State) : (relay num role relayBad noRelay tags payload s).ulp.link = s.ulp.link :=
  (PortKept.relay s _ _ _ _ _ _).link

@[simp] theorem endAccess_link (a : Access) (tags : TagSet) (payload : List Byte) (s : State) :
    (endAccess a tags payload s).ulp.link = s.ulp.link := rfl

/-! ### Properties of the head -/

/-- The blocks below the port, but for the bus master, and the link state are the same. -/
def SameHead (s t : State) : Prop :=
  t.vtr = s.vtr ∧ t.spl = s.spl ∧ t.governorL = s.governorL ∧ t.governorR = s.governorR ∧ t.nSet = s.nSet
    ∧ t.sru = s.sru ∧ t.pps = s.pps ∧ t.tst = s.tst ∧ t.ulp.link = s.ulp.link

theorem sameHead_arbitrate (s : State) : SameHead s (arbitrate s) := by simp [SameHead]

theorem sameHead_setDue (num : Nat) (s : State) : SameHead s (setDue num s) := by simp [SameHead]

theorem sameHead_relay (num : Nat) (role : Role) (relayBad noRelay : Bool) (tags : TagSet) (payload : List Byte)
    (s : State) : SameHead s (relay num role relayBad noRelay tags payload s) := by simp [SameHead]

theorem sameHead_answer (k : DownlinkKind) (tag : Byte) (r : ResultCode) (p : List Byte) (s : State) :
    SameHead s (answer k tag r p s) := by simp [SameHead]

/-- Whether a frame acts on the blocks below the port or on the tables. -/
def headFrame (i : Instr) : Bool :=
  match i with
  | .control _ _ => true
  | .tableOpen _ _ => true
  | .tableWrite _ _ _ _ => true
  | .tableActivate _ _ => true
  | .panelStart _ _ _ _ => true
  | .clear _ _ => true
  | .headReset _ => true
  | _ => false

/-- Whether an event acts on the blocks below the port, the ends of bus transactions apart. -/
def headEvent (c : Instr) : Bool :=
  match c with
  | .linkTimeout => true
  | .relockTimeout => true
  | .offTimeExpiry _ => true
  | .primeTimeout => true
  | .dryTimeout => true
  | .refreshDeadline => true
  | .strokeTimeout _ => true
  | .dwellEnd _ => true
  | _ => false

/-- The other frames leave the head as it is. -/
theorem frameBody_sameHead {i : Instr} (h : headFrame i = false) (s : State) : SameHead s (frameBody i s) := by
  cases i with
  | control | tableOpen | tableWrite | tableActivate | panelStart | clear | headReset => simp [headFrame] at h
  | tableRead tag table bank row extra =>
    simp only [SameHead, frameBody, readTable]
    repeat' split
    all_goals simp
  | logRead tag first count =>
    simp only [SameHead, frameBody, requestLogRead]
    repeat' split
    all_goals simp
  | nodeAccess tag address op register value =>
    simp only [SameHead, frameBody, requestNodeAccess]
    repeat' split
    all_goals simp
  | echo tag payload =>
    simp only [SameHead, frameBody, requestEcho]
    split <;> simp
  | statusRequest | _ => simp [SameHead, frameBody, requestStatus]

/-- TABLE ACTIVATE answers a refusal, or it makes the load bank of its table active with the effects of the owner and
answers OK. -/
theorem activateTable_cases (tag table : Byte) (s : State) :
    (∃ r p, activateTable tag table s = answer .tableActivate tag r p s)
      ∨ ∃ id, failingRow s.tst.load id = none ∧ lockRefuses id s = false
          ∧ activateTable tag table s
              = answer .tableActivate tag .ok [table]
                  (activationEffects id (s.setTst { s.tst with active := copyTable id s.tst.load s.tst.active })) := by
  unfold activateTable
  split
  · exact .inl ⟨_, _, rfl⟩
  split
  · exact .inl ⟨_, _, rfl⟩
  next id _ _ hpass =>
  split
  · exact .inl ⟨_, _, rfl⟩
  next hfree => exact .inr ⟨id, hpass, by simpa using hfree, rfl⟩

/-- A property of the head is kept by what the ends of bus transactions do to the head. -/
structure KeptByBus (P : State → Prop) : Prop where
  same : ∀ s t : State, SameHead s t → P s → P t
  sample : ∀ (role : Role) (payload : List Byte) (s : State), P s → P (deliverSample role payload s)
  notice : ∀ (role : Role) (payload : List Byte) (s : State), P s → P (deliverWithNotice role payload s)
  lost : ∀ (role : Role) (s : State), P s → P (lostNotice role s)

/-- A property of the head is kept by everything that acts on the head. -/
structure KeptByHead (P : State → Prop) : Prop extends KeptByBus P where
  reset : P State.reset
  lock : ∀ s : State, s.ulp.link = .hunt → P s → P (lockLink s)
  frame : ∀ (i : Instr) (s : State), headFrame i = true → s.ulp.link ≠ .hunt → P s → P (frameBody i s)
  event : ∀ (c : Instr) (s : State), headEvent c = true → P s → P (eventEffect c s)

namespace KeptByHead

variable {P : State → Prop}

theorem absentNotices (lost : ∀ (role : Role) (s : State), P s → P (lostNotice role s)) {s : State} (h : P s) :
    P (absentNotices s) := by
  have hone : ∀ (role : Role) (u : State), P u → P (absentNotice role u) := by
    intro role u hu
    unfold absentNotice
    split
    · exact hu
    · exact lost role u hu
  exact hone _ _ (hone _ _ (hone _ _ (hone _ _ h)))

/-- The effects of a Poll Table activation are the notices of absent roles. -/
theorem pollActivated (same : ∀ s t : State, SameHead s t → P s → P t)
    (lost : ∀ (role : Role) (s : State), P s → P (lostNotice role s)) {s : State} (h : P s) : P (pollActivated s) := by
  unfold Machine.pollActivated
  refine same _ _ (sameHead_arbitrate _) (absentNotices lost (same s _ ?_ h))
  simp [SameHead]

end KeptByHead

namespace KeptByBus

variable {P : State → Prop} (k : KeptByBus P)
include k

theorem slotBad (num : Nat) (role : Role) (tags : TagSet) {s : State} (h : P s) : P (slotBad num role tags s) := by
  simp only [Machine.slotBad]
  split
  · exact h
  split
  · exact k.lost _ _ (k.same _ _ (by simp [SameHead]) h)
  · exact k.same _ _ (by simp [SameHead]) h

theorem endLiveSlot (num address : Nat) (role : Role) (tags : TagSet) (payload : List Byte) {s : State} (h : P s) :
    P (endLiveSlot num address role tags payload s) := by
  simp only [Machine.endLiveSlot]
  split
  · have hserved : P (setDue num (slotGood num address s)) := k.same _ _ (by simp [SameHead]) h
    split
    · exact k.sample _ _ _ hserved
    · exact k.notice _ _ _ hserved
  · exact k.same _ _ (sameHead_setDue _ _) (k.slotBad num role tags h)

theorem endSlot (num address : Nat) (role : Role) (relayBad noRelay orphan : Bool) (tags : TagSet)
    (payload : List Byte) {s : State} (h : P s) :
    P (endSlot num address role relayBad noRelay orphan tags payload s) := by
  unfold Machine.endSlot
  refine k.same _ _ (sameHead_relay _ _ _ _ _ _ _) ?_
  split
  · split
    · exact k.sample _ _ _ h
    · exact h
  · exact k.endLiveSlot _ _ _ _ _ h

theorem endTransaction (tx : Transaction) (tags : TagSet) (payload : List Byte) {s : State} (h : P s) :
    P (endTransaction tx tags payload s) := by
  have hidle : P (s.setSbm { s.sbm with bus := .idle }) := k.same _ _ (by simp [SameHead]) h
  simp only [Machine.endTransaction]
  refine k.same _ _ (sameHead_arbitrate _) ?_
  split
  · exact k.endSlot _ _ _ _ _ _ _ _ hidle
  · exact k.same _ _ (by simp [SameHead]) hidle

/-- An event keeps a property of the head when it is no event of the head or keeps it as one: the others are the ends of
transactions, and the rest, which leave the head as it is. -/
theorem eventEffect {c : Instr} {s : State} (hevent : headEvent c = true → P (eventEffect c s)) (h : P s) :
    P (eventEffect c s) := by
  cases c with
  | linkTimeout | relockTimeout | offTimeExpiry | primeTimeout | dryTimeout | refreshDeadline | strokeTimeout
    | dwellEnd => exact hevent rfl
  | responseComplete chars =>
    obtain he | ⟨tx, deadline, r, -, -, he⟩ := receiveResponse_cases chars s
    · exact (congrArg P he).mpr h
    · exact (congrArg P he).mpr (k.endTransaction _ _ _ h)
  | responseTimeout =>
    obtain he | ⟨tx, deadline, -, -, he⟩ := responseExpiry_cases s
    · exact (congrArg P he).mpr h
    · exact (congrArg P he).mpr (k.endTransaction _ _ _ h)
  | _ => exact k.same _ _ (by simp [Machine.eventEffect, SameHead]) h

/-- A frame keeps a property of the head when it is no frame of the head or keeps it as one. -/
theorem frameBody {i : Instr} {s : State} (hframe : headFrame i = true → P (frameBody i s)) (h : P s) :
    P (frameBody i s) := by
  cases hi : headFrame i with
  | true => exact hframe hi
  | false => exact k.same _ _ (frameBody_sameHead hi s) h

/-- A command that is no character keeps a property of the head that its frame or its event keeps. -/
theorem commandEffect {c : Instr} (hc : ∀ ch, c ≠ .syncCharacter ch)
    (hframe : headFrame c = true → ∀ t : State, t.ulp.link ≠ .hunt → P t → P (Machine.frameBody c t))
    (hevent : headEvent c = true → ∀ t : State, P t → P (Machine.eventEffect c t)) {s : State} (h : P s) :
    P (commandEffect c s) := by
  have hdiscard : P (takeDiscard s) := k.same _ _ (by unfold takeDiscard; split <;> simp [SameHead]) h
  unfold Machine.commandEffect
  split
  · next ch => exact absurd rfl (hc ch)
  · exact hdiscard
  · unfold gapExpiry
    split
    · exact h
    · exact hdiscard
  · split
    · unfold takeFrame
      split
      · exact h
      · next hlink =>
        have haccepted : P (acceptFrame s) := k.same _ _ (by simp [SameHead]) h
        rw [executeFrame_eq]
        split
        · exact k.same _ _ (by simp [SameHead]) haccepted
        · exact k.frameBody (fun hi => hframe hi _ hlink haccepted) haccepted
    · exact k.eventEffect (fun he => hevent he s h) h

end KeptByBus

namespace KeptByHead

variable {P : State → Prop} (k : KeptByHead P)
include k

/-- Every part of a step keeps a property of the head that is kept by what acts on it. -/
theorem kept : KeptByStep P where
  reset := k.reset
  own _ _ _ _ h := k.same _ _ (by simp [SameHead]) h
  serve _ h := k.same _ _ (by simp [SameHead]) h
  hunt c s hlink h := by
    unfold huntCharacter
    split
    · split
      · exact k.lock s hlink h
      · exact k.same _ _ (by simp [SameHead]) h
    · exact k.same _ _ (by simp [SameHead]) h
  gather _ _ _ h := k.same _ _ (by simp [SameHead]) h
  accept _ _ h := k.same _ _ (by simp [SameHead]) h
  discard _ _ h := k.same _ _ (by simp [SameHead]) h
  overflow _ h := k.same _ _ (by simp [SameHead]) h
  frame i s hlink _ h := k.frameBody (fun hi => k.frame i s hi hlink h) h
  event c s h := k.eventEffect (fun hc => k.event c s hc h) h

end KeptByHead

end Sys2Proof.Machine

namespace Sys2Proof.Safety

open Sys2Proof.Machine

/-! SUPPORT. Every step keeps the plates safe (R117, R120, R121, R127). -/

/-! ### One plate -/

section
variable {l : LinkState} {p : Plate}

/-- A plate whose valve is off is safe under any link state, when its stroke timer is off and STUCK has its latch. -/
theorem plateSafe_of_still (hstill : moving p = false) (htimer : p.strokeDeadline = none)
    (hlatch : p.state = .stuck → p.stuckLatch = true) (l : LinkState) : plateSafe l p :=
  ⟨by simp [hstill, htimer], by simp [hstill], hlatch⟩

theorem plateSafe_timer_of_still (h : plateSafe l p) (hstill : moving p = false) : p.strokeDeadline = none := by
  have htimer := h.1
  rw [hstill] at htimer
  simpa using htimer

/-- A safe plate is safe under another link state, where the link does not leave ONLINE. -/
theorem plateSafe.relink {l' : LinkState} (h : plateSafe l p) (hl : l = .online → l' = .online) : plateSafe l' p :=
  ⟨h.1, fun hm => ⟨hl (h.2.1 hm).1, (h.2.1 hm).2⟩, h.2.2⟩

/-- A valve turned off leaves a plate that is safe under any link state. -/
theorem plateSafe_turnOff (h : plateSafe l p) {dest : PlateState} (hdest : dest = .hold ∨ dest = .nofb) (now : HeadTime)
    (dwell : Nat) (l' : LinkState) : plateSafe l' (turnOff now dwell dest p) := by
  have hstill : ∀ q : Plate, q.state = dest → moving q = false := by
    rintro q rfl
    rcases hdest with hd | hd <;> simp [moving, hd]
  have hfree : ∀ q : Plate, q.state = dest → q.state = .stuck → q.stuckLatch = true := by
    intro q hq hstuck
    rw [← hq, hstuck] at hdest
    simp at hdest
  cases hm : moving p with
  | false =>
    have htimer := plateSafe_timer_of_still h hm
    rw [turnOff_still now dwell dest p hm]
    exact plateSafe_of_still (p := { p with state := dest }) (hstill _ rfl) htimer (hfree _ rfl) l'
  | true =>
    rcases moving_iff.mp hm with hs | hs <;> simp only [turnOff, plateMotion, hs]
    all_goals exact plateSafe_of_still (hstill _ rfl) rfl (hfree _ rfl) l'

/-- A plate put in motion while ONLINE with a known position is safe. -/
theorem plateSafe_startMotion (hpos : p.position.isSome = true) (now : HeadTime) (stroke : Nat) (m : Motion) :
    plateSafe .online (startMotion now stroke m p) := by
  cases m <;> simp [plateSafe, startMotion, motionState, moving, hpos]

/-- A decision keeps a plate safe. -/
theorem plateSafe_decidePlate (h : plateSafe .online p) (now : HeadTime) (t : SteeringParams) (target : Nat) :
    plateSafe .online (decidePlate now t target p) := by
  have hoff : ∀ dwell, plateSafe .online (turnOff now dwell .hold p) := fun dwell =>
    plateSafe_turnOff h (.inl rfl) now dwell _
  unfold decidePlate
  split
  · exact h
  · exact h
  · split
    · exact h
    next pos hpos =>
    split
    · exact h
    split
    · exact h
    · exact plateSafe_startMotion (by simp [hpos]) _ _ _
  · split
    · exact hoff _
    next pos hpos =>
    have hpos' : ∀ q dwell, (turnOff now dwell q p).position = some pos := by
      intro q dwell
      unfold turnOff
      split <;> exact hpos
    split
    · exact hoff _
    split
    · exact h
    split
    · exact plateSafe_startMotion (by simp [hpos']) _ _ _
    · exact hoff _

/-- A decision as the state stands keeps a plate safe. -/
theorem plateSafe_decideFor {s : State} (h : plateSafe s.ulp.link p) (id : PlateId) :
    plateSafe s.ulp.link (decideFor s id p) := by
  by_cases hl : s.ulp.link = .online
  · rw [decideFor_online s id p hl]
    rw [hl] at h ⊢
    exact plateSafe_decidePlate h _ _ _
  · rwa [decideFor_frozen s id p hl]

/-- A stored position keeps a plate safe. -/
theorem plateSafe.position (h : plateSafe l p) (n : Nat) : plateSafe l { p with position := some n } :=
  ⟨h.1, fun hm => ⟨(h.2.1 hm).1, rfl⟩, h.2.2⟩

end

/-! ### The four plates -/

section
variable {s t : State}

theorem platesSafe.of_eq (h : platesSafe s) (hpps : t.pps = s.pps) (hlink : t.ulp.link = s.ulp.link) : platesSafe t := by
  unfold platesSafe at h ⊢
  rwa [hpps, hlink]

theorem platesSafe.of_sameHead (h : platesSafe s) (he : SameHead s t) : platesSafe t := by
  obtain ⟨-, -, -, -, -, -, hpps, -, hlink⟩ := he
  exact h.of_eq hpps hlink

theorem platesSafe.setTst (h : platesSafe s) (x : Tst) : platesSafe (s.setTst x) := h

/-- The plates of a state replaced, each by a safe one. -/
theorem platesSafe_setPlates {q : Quad Plate} (h : ∀ id, plateSafe s.ulp.link (q.get id)) : platesSafe (setPlates s q) := h

/-- One plate replaced by a safe one. -/
theorem platesSafe.set (h : platesSafe s) {id : PlateId} {p : Plate} (hp : plateSafe s.ulp.link p) :
    platesSafe (setPlates s (s.pps.plates.set id p)) := by
  refine platesSafe_setPlates fun other => ?_
  rw [Quad.get_set]
  split
  · exact hp
  · exact h other

theorem platesSafe.decisionPass (h : platesSafe s) : platesSafe (decisionPass s) := by
  refine platesSafe_setPlates fun id => ?_
  rw [Quad.get_mapPlates]
  exact plateSafe_decideFor (h id) id

theorem platesSafe.handTargets (h : platesSafe s) (before : Quad Nat) : platesSafe (handTargets before s) := by
  unfold Machine.handTargets
  split
  · exact h.decisionPass
  · exact h

theorem platesSafe.evaluateAndHand (h : platesSafe s) : platesSafe (evaluateAndHand s) :=
  platesSafe.handTargets (h.of_eq (t := evaluate s) rfl rfl) _

/-- The stop of the moving plates leaves plates that are safe under any link state. -/
theorem plateSafe_stopMoving {l : LinkState} {q : Quad Plate} (h : ∀ id, plateSafe l (q.get id)) (s : State)
    (id : PlateId) (l' : LinkState) : plateSafe l' ((stopMoving s q).get id) := by
  rw [stopMoving, Quad.get_mapPlates, plateMotion_isSome]
  split
  · exact plateSafe_turnOff (h id) (.inl rfl) _ _ _
  · next hstill =>
    have hstill : moving (q.get id) = false := by simpa using hstill
    exact plateSafe_of_still hstill (plateSafe_timer_of_still (h id) hstill) (h id).2.2 _

/-- The notices of an entry into LOSS or HUNT leave the plates safe under the new link state. -/
theorem platesSafe_linkNotices {l : LinkState} (h : ∀ id, plateSafe l (s.pps.plates.get id)) (hunt : Bool) :
    platesSafe (linkNotices hunt s) :=
  platesSafe.evaluateAndHand fun id => plateSafe_stopMoving (l := l) (by simpa using h) _ id _

theorem platesSafe.flapLost (h : platesSafe s) : platesSafe (flapLost s) := by
  refine platesSafe_setPlates fun id => ?_
  rw [platesAfterLost, Quad.get_mapPlates]
  exact plateSafe_turnOff (h id) (.inr rfl) _ _ _

theorem platesSafe.lostNotice (h : platesSafe s) (role : Role) : platesSafe (lostNotice role s) := by
  cases role with
  | flap => exact h.flapLost
  | inclA | inclB | aux => exact h
  | drumL | drumR | slurry => exact h.of_eq (by simp [Machine.lostNotice]) (by simp)

/-! ### Samples -/

theorem plateSafe_platesAfterSample {q : Quad Plate} (h : ∀ id, plateSafe s.ulp.link (q.get id)) (v : Quad Nat)
    (id : PlateId) : plateSafe s.ulp.link ((platesAfterSample s v q).get id) := by
  rw [platesAfterSample, storePositions, Quad.get_mapPlates, Quad.get_mapPlates]
  exact plateSafe_decideFor ((h id).position _) id

theorem plateSafe_platesAfterAlive {q : Quad Plate} (h : ∀ id, plateSafe s.ulp.link (q.get id)) (id : PlateId) :
    plateSafe s.ulp.link ((platesAfterAlive s q).get id) := by
  rw [platesAfterAlive, Quad.get_mapPlates]
  split
  · next hnofb =>
    have hstill : moving (q.get id) = false := by simp [moving, hnofb]
    have htimer := plateSafe_timer_of_still (h id) hstill
    split
    · next hlatch => exact plateSafe_of_still (p := { q.get id with state := .stuck }) rfl htimer (fun _ => hlatch) _
    · exact plateSafe_decideFor (plateSafe_of_still (p := { q.get id with state := .hold }) rfl htimer (by simp) _) id
  · exact h id

theorem platesSafe.deliverSample (h : platesSafe s) (role : Role) (payload : List Byte) :
    platesSafe (deliverSample role payload s) := by
  cases role with
  | inclA | inclB => exact platesSafe.evaluateAndHand (h.of_eq rfl rfl)
  | flap => exact platesSafe_setPlates fun id => plateSafe_platesAfterSample h _ id
  | drumL | drumR | slurry | aux =>
    exact h.of_eq (by simp [Machine.deliverSample]) (PortKept.deliverSample s _ _).link

theorem platesSafe.flapSampleWithNotice (h : platesSafe s) (v : Quad Nat) : platesSafe (flapSampleWithNotice v s) := by
  have hnotice := plateSafe_platesAfterSample (plateSafe_platesAfterAlive h) v
  have hsample := plateSafe_platesAfterAlive (plateSafe_platesAfterSample h v)
  refine platesSafe_setPlates (s := s) fun id => ?_
  unfold inEitherOrder
  split
  · exact hnotice id
  · split
    · exact hnotice id
    · exact hsample id

theorem platesSafe.deliverWithNotice (h : platesSafe s) (role : Role) (payload : List Byte) :
    platesSafe (deliverWithNotice role payload s) := by
  cases role with
  | inclA | inclB | slurry => exact h.deliverSample _ _
  | flap => exact h.flapSampleWithNotice _
  | aux => exact h
  | drumL | drumR => exact h.of_eq (by simp [Machine.deliverWithNotice]) (PortKept.deliverWithNotice s _ _).link

/-! ### The plates' own timers, CLEAR and HEAD RESET -/

theorem platesSafe.strokeExpiry (h : platesSafe s) (id : PlateId) : platesSafe (strokeExpiry id s) := by
  simp only [Machine.strokeExpiry]
  split
  · next hdue =>
    split
    · exact h.set (plateSafe_turnOff (h id) (.inl rfl) _ _ _)
    · have hm : moving (s.pps.plates.get id) = true := by
        rw [← plateMotion_isSome]
        exact (Bool.and_eq_true_iff.mp hdue).1
      obtain ⟨⟨hstate, htimer, -⟩, -⟩ :=
        turnOff_stopped s.headTime s.tst.active.steering.params.reversalDwell .stuck _ hm
      refine platesSafe.of_eq (h.set (id := id) (plateSafe_of_still ?_ ?_ (fun _ => rfl) _)) rfl rfl
      · simp [moving, hstate]
      · exact htimer
  · exact h

theorem platesSafe.dwellExpiry (h : platesSafe s) (id : PlateId) : platesSafe (dwellExpiry id s) := by
  simp only [Machine.dwellExpiry]
  split
  · exact h
  split
  · have hbar : plateSafe s.ulp.link { s.pps.plates.get id with bar := none } := h id
    refine h.set ?_
    split
    · exact plateSafe_decideFor hbar id
    · exact hbar
  · exact h

theorem platesSafe.clearPlates (h : platesSafe s) : platesSafe (clearPlates s) := by
  refine platesSafe_setPlates fun id => ?_
  rw [Quad.get_mapPlates]
  split
  · next hstuck =>
    have hstill : moving (s.pps.plates.get id) = false := by simp [moving, hstuck]
    have htimer := plateSafe_timer_of_still (h id) hstill
    refine plateSafe_decideFor (plateSafe_of_still ?_ ?_ ?_ _) id
    · rfl
    · exact htimer
    · simp
  · next hfree => exact ⟨(h id).1, (h id).2.1, fun hstuck => absurd hstuck hfree⟩

theorem platesSafe.dispatchClear (h : platesSafe s) (x : ClearSelector) : platesSafe (dispatchClear x s) := by
  cases x with
  | drum | pump => exact h.of_eq (by simp [Machine.dispatchClear]) (by simp)
  | plates => exact h.clearPlates
  | all => exact platesSafe.clearPlates (h.of_eq (by simp) (by simp))

theorem platesSafe.headResetPlates (h : platesSafe s) : platesSafe (headResetPlates s) :=
  fun id => plateSafe_stopMoving h s id _

theorem platesSafe.headResetPlanner (h : platesSafe s) : platesSafe (headResetPlanner s) :=
  platesSafe.handTargets (h.of_eq (t := s.setSpl resetSpl) rfl rfl) _

theorem platesSafe.headResetSteering (h : platesSafe s) : platesSafe (headResetSteering s) := by
  rcases headResetSteering_order s with he | he <;> rw [he]
  · exact h.headResetPlanner.headResetPlates
  · exact h.headResetPlates.headResetPlanner

end

/-! ### Every step -/

theorem platesSafe.deliverControl {s : State} (h : platesSafe s) (hlink : s.ulp.link ≠ .hunt) (f : ControlFields) :
    platesSafe (deliverControl f s) := by
  rw [deliverControl_eq f s hlink]
  have hcontrol : platesSafe (controlLink s) := by
    intro id
    rw [controlLink_eq s hlink]
    exact (h id).relink fun _ => rfl
  have hfields : platesSafe (fieldsTaken f (controlLink s)) := hcontrol
  refine platesSafe.decisionPass (platesSafe.of_eq hfields ?_ ?_)
  · simp
  · rw [evaluate_ulp, (PortKept.takeDepth _ _).link]

theorem platesSafe.activationEffects {s : State} (h : platesSafe s) (id : TableId) :
    platesSafe (activationEffects id s) := by
  cases id with
  | poll =>
    exact KeptByHead.pollActivated (fun _ _ he hs => hs.of_sameHead he) (fun role _ hs => hs.lostNotice role) h
  | drum | slurry | mounting | plan | steering | link =>
    exact h.of_eq (by simp [Machine.activationEffects]) (by simp)

theorem platesSafe.frameBody {s : State} (h : platesSafe s) {i : Instr} (hi : headFrame i = true)
    (hlink : s.ulp.link ≠ .hunt) : platesSafe (frameBody i s) := by
  cases i with
  | control tag f => exact h.deliverControl hlink f
  | tableActivate tag table =>
    obtain ⟨r, p, he⟩ | ⟨id, -, -, he⟩ := activateTable_cases tag table s
    · rw [Machine.frameBody, he]
      exact h.of_sameHead (sameHead_answer _ _ _ _ _)
    · rw [Machine.frameBody, he]
      exact ((h.setTst _).activationEffects id).of_sameHead (sameHead_answer _ _ _ _ _)
  | panelStart tag d0 ox oy =>
    simp only [Machine.frameBody, requestPanelStart]
    split
    · have hstart : platesSafe (startPanel d0.toNat ox.toInt oy.toInt s) := platesSafe.evaluateAndHand h
      exact hstart.of_sameHead (sameHead_answer _ _ _ _ _)
    · exact h
  | clear tag selector =>
    simp only [Machine.frameBody, requestClear]
    split
    · exact h
    · exact (h.dispatchClear _).of_sameHead (sameHead_answer _ _ _ _ _)
  | headReset tag =>
    refine h.headResetSteering.of_eq ?_ ?_
    · simp [Machine.frameBody, requestHeadReset]
    · simp [Machine.frameBody]
  | tableOpen | tableWrite =>
    refine h.of_eq (by simp [Machine.frameBody]) ?_
    simp only [Machine.frameBody, openTable, writeTable]
    repeat' split
    all_goals simp
  | _ => simp [headFrame] at hi

theorem platesSafe.eventEffect {s : State} (h : platesSafe s) {c : Instr} (hc : headEvent c = true) :
    platesSafe (eventEffect c s) := by
  cases c with
  | linkTimeout =>
    simp only [Machine.eventEffect, linkExpiry]
    split
    · refine platesSafe_linkNotices (l := s.ulp.link) ?_ false
      exact h
    · exact h
  | relockTimeout =>
    simp only [Machine.eventEffect, relockExpiry]
    split
    · refine platesSafe_linkNotices (l := s.ulp.link) ?_ true
      exact h
    · exact h
  | offTimeExpiry unit =>
    have hpps : (offTimeEnds unit s).pps = s.pps := by cases unit <;> simp [offTimeEnds]
    exact h.of_eq hpps (PortKept.offTimeEnds s _).link
  | primeTimeout | dryTimeout => exact h.of_eq (by simp [Machine.eventEffect]) (by simp [Machine.eventEffect])
  | refreshDeadline => exact h.of_eq (by simp [Machine.eventEffect]) (PortKept.refreshExpiry s).link
  | strokeTimeout id => exact h.strokeExpiry id
  | dwellEnd id => exact h.dwellExpiry id
  | _ => simp [headEvent] at hc

theorem platesSafe_lockLink {s : State} (h : platesSafe s) : platesSafe (lockLink s) :=
  platesSafe.decisionPass fun id => (h id).relink fun _ => rfl

theorem platesSafe_reset : platesSafe State.reset :=
  fun id => plateSafe_of_still (by cases id <;> rfl) (by cases id <;> rfl) (by cases id <;> exact nofun) _

/-- Everything that acts on the head keeps the plates safe. -/
theorem platesSafe_kept : KeptByHead platesSafe where
  same _ _ he h := h.of_sameHead he
  reset := platesSafe_reset
  lock _ _ h := platesSafe_lockLink h
  frame _ _ hi hlink h := h.frameBody hi hlink
  event _ _ hc h := h.eventEffect hc
  sample role payload _ h := h.deliverSample role payload
  notice role payload _ h := h.deliverWithNotice role payload
  lost role _ h := h.lostNotice role

/-- Settles O54: what a plate may do in one step, by the parts of the step. -/
theorem platesStaySafe : Obligations.PlatesStaySafe := by
  unfold Obligations.PlatesStaySafe
  intro s t h he
  exact platesSafe_kept.kept.step h he

end Sys2Proof.Safety

namespace Sys2Proof.Safety

open Sys2Proof.Machine

/-! SUPPORT. Every step keeps the Slurry Return Unit safe (R93 to R116). -/

/-! ### The unit alone -/

/-- The unit is safe under an account limit: `slurrySafe` with its conditions named. -/
structure UnitSafe (most : Nat) (u : Sru) : Prop where
  account : u.account ≤ most
  level : u.level ≤ 3
  stopped : ¬(u.pump = .prime ∨ u.pump = .run) → u.duty = 0
  duty : u.duty ≤ 1000
  setpoint : u.setpoint ≤ 1000
  density : 1000 ≤ u.supplyDensity ∧ u.supplyDensity ≤ 1400
  prime : u.primeDeadline.isSome = true ↔ u.pump = .prime
  dry : u.dryDeadline.isSome = true → u.pump = .run
  refresh : u.refreshDeadline.isSome = u.held
  residueR : u.residueR ≤ 9999
  residueC : u.residueC ≤ 999

theorem slurrySafe_iff {s : State} : slurrySafe s ↔ UnitSafe s.tst.active.slurry.ground.accountMax s.sru := by
  constructor
  · rintro ⟨h1, h2, h3, h4, h5, h6, h7, h8, h9, h10, h11, h12⟩
    exact ⟨h1, h2, h3, h4, h5, ⟨h6, h7⟩, h8, h9, h10, h11, h12⟩
  · rintro ⟨h1, h2, h3, h4, h5, ⟨h6, h7⟩, h8, h9, h10, h11, h12⟩
    exact ⟨h1, h2, h3, h4, h5, h6, h7, h8, h9, h10, h11, h12⟩

theorem unitSafe_reset : UnitSafe defaultSlurryTable.ground.accountMax resetSru := by
  constructor <;> simp [resetSru]

namespace UnitSafe

variable {most : Nat} {u : Sru} (h : UnitSafe most u)
include h

/-- The protection and the last enable do not enter. -/
theorem inputs (e : Bool) (p : Protection) (t : Option HeadTime) :
    UnitSafe most { u with lastEnable := e, prot := p, prevSample := t } :=
  ⟨h.1, h.2, h.3, h.4, h.5, h.6, h.7, h.8, h.9, h.10, h.11⟩

/-- A pump that is not in PRIME or RUN has no timer and no duty. -/
theorem eq_enterPumpOff (hp : ¬(u.pump = .prime ∨ u.pump = .run)) : u = { enterPumpOff u with pump := u.pump } := by
  have hprime : u.primeDeadline = none := by
    have hnone := mt h.prime.mp fun hpump => hp (.inl hpump)
    simpa using hnone
  have hdry : u.dryDeadline = none := by
    have hnone := mt h.dry fun hpump => hp (.inr hpump)
    simpa using hnone
  have hduty := h.stopped hp
  cases u
  simp_all [Machine.enterPumpOff]

/-- A stop, into OFF or another state that drives no pump. -/
theorem enterPumpOff {p : PumpState} (hp : ¬(p = .prime ∨ p = .run)) :
    UnitSafe most { enterPumpOff u with pump := p } where
  account := h.account
  level := h.level
  stopped _ := rfl
  duty := Nat.zero_le _
  setpoint := h.setpoint
  density := h.density
  prime := ⟨fun hsome => absurd hsome (by simp [Machine.enterPumpOff]), fun hprime => absurd (.inl hprime) hp⟩
  dry hsome := absurd hsome (by simp [Machine.enterPumpOff])
  refresh := h.refresh
  residueR := h.residueR
  residueC := h.residueC

/-- Another state that drives no pump, from one that drives none. -/
theorem pump (hu : ¬(u.pump = .prime ∨ u.pump = .run)) {p : PumpState} (hp : ¬(p = .prime ∨ p = .run)) :
    UnitSafe most { u with pump := p } := by
  have he := h.enterPumpOff hp
  rw [h.eq_enterPumpOff hu]
  exact he

theorem enterPrime (now : HeadTime) (t : SlurryTable) : UnitSafe most (enterPrime now t u) :=
  { account := h.account, level := h.level, setpoint := h.setpoint, density := h.density, refresh := h.refresh,
    residueR := h.residueR, residueC := h.residueC
    stopped := fun hp => absurd (.inl rfl) hp
    duty := (Nat.min_le_left _ _).trans h.setpoint
    prime := by simp [Machine.enterPrime]
    dry := by simp [Machine.enterPrime] }

theorem reformDuty (t : SlurryTable) : UnitSafe most (reformDuty t u) := by
  unfold Machine.reformDuty pumpDriven
  split
  · next hd =>
    exact { h with
      stopped := fun hp => absurd (of_decide_eq_true hd) hp
      duty := (Nat.min_le_left _ _).trans h.setpoint }
  · exact h

theorem setpointTaken (t : SlurryTable) (v : Nat) : UnitSafe most (setpointTaken t v u) :=
  UnitSafe.reformDuty (u := { u with setpoint := min 1000 v }) { h with setpoint := Nat.min_le_left _ _ } t

theorem densityTaken (v : Nat) : UnitSafe most (densityTaken v u) :=
  { h with density := by simp only [Machine.densityTaken]; omega }

theorem pumpEnableTaken (now : HeadTime) (t : SlurryTable) (on en : Bool) :
    UnitSafe most (pumpEnableTaken now t on en u) := by
  simp only [Machine.pumpEnableTaken]
  have hlast : ∀ v, UnitSafe most v → UnitSafe most { v with lastEnable := en } := fun v hv => hv.inputs en v.prot v.prevSample
  refine hlast _ ?_
  split
  · split
    · exact h.enterPrime now t
    · exact h
  · split
    · exact h.enterPumpOff (p := .off) (by simp)
    · exact h.enterPumpOff (p := .off) (by simp)
    · exact h.inputs u.lastEnable _ u.prevSample
    all_goals exact h

theorem dryTest (hrun : u.pump = .run) (now : HeadTime) (t : SlurryPump) (alive : Bool) (flow : Nat) (suction : Int) :
    UnitSafe most (dryTest now t alive flow suction u) := by
  unfold Machine.dryTest
  split
  · split
    · exact { h with dry := fun _ => hrun }
    · exact h
  · exact { h with dry := by simp }

theorem pumpStage (now : HeadTime) (t : SlurryPump) (alive : Bool) (flow : Nat) (suction : Int) :
    UnitSafe most (pumpStage now t alive flow suction u) := by
  unfold Machine.pumpStage
  split
  · next hprime =>
    split
    · refine UnitSafe.dryTest (u := { u with pump := .run, primeDeadline := none }) ?_ rfl _ _ _ _ _
      exact { h with stopped := by simp, prime := by simp, dry := fun _ => rfl }
    · exact h
  · next hrun => exact h.dryTest hrun _ _ _ _ _
  all_goals exact h

theorem headResetSru (now : HeadTime) : UnitSafe most (headResetSru now u) := by
  have hoff : UnitSafe most (if u.pump = .lockout then u else Machine.enterPumpOff u) := by
    split
    · exact h
    · exact h.enterPumpOff (p := .off) (by simp)
  have hheld : (if u.pump = .lockout then u else Machine.enterPumpOff u).held = u.held := by split <;> rfl
  simp only [Machine.headResetSru]
  exact { hoff with
    setpoint := Nat.zero_le _
    refresh := by
      rw [hheld]
      cases u.held <;> rfl }

end UnitSafe

/-! ### The account, the level and the feed hold -/

theorem risingPass_le {l : SlurryLevels} {account : Nat} {fuel level : Nat} (h : level ≤ 3) :
    risingPass l account fuel level ≤ 3 := by
  induction fuel generalizing level with
  | zero => exact h
  | succ fuel ih =>
    unfold risingPass
    split
    · next hc => exact ih hc.1
    · exact h

theorem fallingPass_le (l : SlurryLevels) (account level : Nat) : fallingPass l account level ≤ level := by
  induction level with
  | zero => exact Nat.le_refl _
  | succ level ih =>
    unfold fallingPass
    split
    · exact Nat.le_succ_of_le ih
    · exact Nat.le_refl _

theorem levelAfter_le {l : SlurryLevels} {account level : Nat} (h : level ≤ 3) : levelAfter l account level ≤ 3 :=
  (fallingPass_le _ _ _).trans (risingPass_le h)

section
variable {s : State}

theorem slurrySafe.of_eq {t : State} (h : slurrySafe s) (hsru : t.sru = s.sru)
    (htst : t.tst.active.slurry = s.tst.active.slurry) : slurrySafe t := by
  rw [slurrySafe_iff] at h ⊢
  rwa [hsru, htst]

theorem slurrySafe.of_sameHead {t : State} (h : slurrySafe s) (he : SameHead s t) : slurrySafe t := by
  obtain ⟨-, -, -, -, -, hsru, -, htst, -⟩ := he
  exact h.of_eq hsru (by rw [htst])

theorem slurrySafe_setSru {u : Sru} (h : UnitSafe s.tst.active.slurry.ground.accountMax u) : slurrySafe (s.setSru u) :=
  slurrySafe_iff.mpr h

theorem slurrySafe.setVtr (h : slurrySafe s) (v : Vtr) : slurrySafe (s.setVtr v) := h

/-- The refresh deadline runs exactly while HELD, after the feed-hold test too. -/
theorem accountUpdate_refresh (h : s.sru.refreshDeadline.isSome = s.sru.held) (cut returned : Nat) :
    (accountUpdate cut returned s).sru.refreshDeadline.isSome = (accountUpdate cut returned s).sru.held := by
  obtain ⟨hreleased, hmade, hkept⟩ := accountUpdate_tested cut returned s
  rcases Nat.lt_or_ge (updatedLevel cut returned s) s.tst.active.slurry.levels.holdLevel with hlow | hhigh
  · cases hheld : s.sru.held with
    | true =>
      obtain ⟨he, hr, -⟩ := hreleased hheld hlow
      rw [he, hr]
      rfl
    | false =>
      obtain ⟨he, hr, -⟩ := hkept ⟨fun ht => by simp [hheld] at ht, fun hle => absurd hle (Nat.not_le_of_lt hlow)⟩
      rw [he, hr, h]
  · cases hheld : s.sru.held with
    | true =>
      obtain ⟨he, hr, -⟩ := hkept ⟨fun _ => hhigh, fun _ => hheld⟩
      rw [he, hr, h]
    | false =>
      obtain ⟨he, hr, -⟩ := hmade hheld hhigh
      rw [he, hr]
      rfl

/-- An account update keeps the unit safe, whatever the account was. -/
theorem slurrySafe.accountUpdate (h : slurrySafe s) (cut returned : Nat) : slurrySafe (accountUpdate cut returned s) := by
  rw [slurrySafe_iff] at h ⊢
  have hrefresh := accountUpdate_refresh h.refresh cut returned
  rw [accountUpdate_tst]
  rw [accountUpdate_sru] at hrefresh ⊢
  exact { h with
    account := Nat.min_le_right _ _
    level := levelAfter_le h.level
    refresh := hrefresh }

theorem slurrySafe.cutTerm (h : slurrySafe s) (advance : Nat) : slurrySafe (cutTerm advance s) := by
  refine slurrySafe.accountUpdate (slurrySafe_iff.mpr ?_) _ _
  exact { slurrySafe_iff.mp h with residueC := Nat.le_of_lt_succ (Nat.mod_lt _ (by decide)) }

theorem slurrySafe.slurrySample (h : slurrySafe s) (x : SlurrySample) : slurrySafe (slurrySample x s) := by
  refine slurrySafe.accountUpdate (slurrySafe_iff.mpr ?_) _ _
  have hstage := (slurrySafe_iff.mp h).pumpStage s.headTime s.tst.active.slurry.pump (roleAlive .slurry s)
    (min 2000 x.flow) (clamp (-100) 1000 x.suction)
  refine { hstage with residueR := ?_ }
  simp only [State.setSru_sru]
  split
  · exact Nat.le_of_lt_succ (Nat.mod_lt _ (by decide))
  · exact hstage.residueR

theorem slurrySafe.holdFeed (h : slurrySafe s) : slurrySafe (holdFeed s) :=
  slurrySafe_iff.mpr { slurrySafe_iff.mp h with refresh := rfl }

theorem slurrySafe.slurryLost (h : slurrySafe s) : slurrySafe (slurryLost s) :=
  slurrySafe_iff.mpr { slurrySafe_iff.mp h with dry := by simp [Machine.slurryLost] }

theorem slurrySafe.tripPump (h : slurrySafe s) (cause : PumpCause) : slurrySafe (tripPump cause s) := by
  have hu := slurrySafe_iff.mp h
  have hstopped : ∀ p q, ¬(p = .prime ∨ p = .run) →
      UnitSafe s.tst.active.slurry.ground.accountMax { enterPumpOff s.sru with pump := p, prot := q } :=
    fun p q hp => (hu.enterPumpOff hp).inputs s.sru.lastEnable q s.sru.prevSample
  simp only [Machine.tripPump]
  refine (slurrySafe_setSru (hstopped _ _ ?_)).of_eq (post_sru _ _ _ _) (by simp)
  split <;> simp

theorem slurrySafe.clearPump (h : slurrySafe s) : slurrySafe (clearPump s) := by
  have hu := slurrySafe_iff.mp h
  rw [slurrySafe_iff, clearPump_sru, clearPump_tst]
  split
  · exact UnitSafe.inputs (hu.enterPumpOff (p := .off) (by simp)) s.sru.lastEnable _ s.sru.prevSample
  · exact hu.inputs _ _ _

theorem slurrySafe.pumpOffTimeExpiry (h : slurrySafe s) : slurrySafe (pumpOffTimeExpiry s) := by
  have hu := slurrySafe_iff.mp h
  unfold Machine.pumpOffTimeExpiry
  split
  next deadline htrip =>
    split
    · split
      · exact slurrySafe_iff.mpr (hu.enterPrime _ _)
      · exact slurrySafe_iff.mpr (hu.pump (by simp [htrip]) (by simp))
      · exact slurrySafe_iff.mpr (hu.enterPumpOff (p := .off) (by simp))
    · exact h
  all_goals exact h

/-! ### Every step -/

theorem slurrySafe.deliverSample (h : slurrySafe s) (role : Role) (payload : List Byte) :
    slurrySafe (deliverSample role payload s) := by
  cases role with
  | slurry => exact h.slurrySample _
  | inclA | inclB | drumL | drumR | flap | aux => exact h.of_eq (by simp [Machine.deliverSample]) (by simp)

theorem slurrySafe.deliverWithNotice (h : slurrySafe s) (role : Role) (payload : List Byte) :
    slurrySafe (deliverWithNotice role payload s) := by
  cases role with
  | slurry | inclA | inclB => exact h.deliverSample _ _
  | drumL | drumR | flap | aux => exact h.of_eq (by simp [Machine.deliverWithNotice]) (by simp)

theorem slurrySafe.lostNotice (h : slurrySafe s) (role : Role) : slurrySafe (lostNotice role s) := by
  cases role with
  | slurry => exact h.slurryLost
  | inclA | inclB | drumL | drumR | flap | aux => exact h.of_eq (by simp [Machine.lostNotice]) (by simp)

theorem slurrySafe.advanceFace (h : slurrySafe s) (d : Nat) : slurrySafe (advanceFace d s) := by
  unfold Machine.advanceFace
  exact ((h.setVtr _).cutTerm _).of_eq (closeTest_sru d _) (congrArg (fun t => t.active.slurry) (closeTest_tst d _))

theorem slurrySafe.takeDepth (h : slurrySafe s) (v : Nat) : slurrySafe (takeDepth v s) := by
  unfold Machine.takeDepth
  split
  · simp only [acceptDepth]
    split
    · exact h
    split
    · exact ((h.setVtr _).setVtr _).advanceFace v
    · exact h
  · exact h.of_eq (by simp) (by simp)

theorem slurrySafe.deliverControl (h : slurrySafe s) (hlink : s.ulp.link ≠ .hunt) (f : ControlFields) :
    slurrySafe (deliverControl f s) := by
  rw [deliverControl_eq f s hlink]
  have hcontrol : slurrySafe (controlLink s) := h.of_eq (by simp) (by simp)
  have hfields : slurrySafe (fieldsTaken f (controlLink s)) :=
    slurrySafe_iff.mpr
      ((((slurrySafe_iff.mp hcontrol).setpointTaken _ _).densityTaken _).pumpEnableTaken _ _ _ _)
  exact (hfields.takeDepth f.depth.toNat).of_eq (by simp) (by simp)

theorem slurrySafe.dispatchClear (h : slurrySafe s) (x : ClearSelector) : slurrySafe (dispatchClear x s) := by
  cases x with
  | drum | plates => exact h.of_eq (by simp [Machine.dispatchClear]) (by simp)
  | pump => exact h.clearPump
  | all =>
    refine slurrySafe.of_eq (slurrySafe.clearPump (s := onGovernors governorCleared s) ?_) (clearPlates_sru _) (by simp)
    exact h.of_eq (by simp) (by simp)

/-- An activation keeps the unit safe: that of the Slurry Table limits the account to its own limit (R114). -/
theorem slurrySafe.activate (h : slurrySafe s) (id : TableId) :
    slurrySafe (activationEffects id (s.setTst { s.tst with active := copyTable id s.tst.load s.tst.active })) := by
  cases id with
  | slurry =>
    refine slurrySafe_iff.mpr (UnitSafe.reformDuty ?_ _)
    exact { slurrySafe_iff.mp h with account := Nat.min_le_right _ _ }
  | poll =>
    exact KeptByHead.pollActivated (fun _ _ he hs => hs.of_sameHead he) (fun role _ hs => hs.lostNotice role)
      (h.of_eq rfl rfl)
  | drum | mounting | plan | steering | link =>
    exact h.of_eq (by simp [Machine.activationEffects]) (by simp [copyTable])

theorem slurrySafe.frameBody (h : slurrySafe s) {i : Instr} (hi : headFrame i = true) (hlink : s.ulp.link ≠ .hunt) :
    slurrySafe (frameBody i s) := by
  cases i with
  | control tag f => exact h.deliverControl hlink f
  | tableActivate tag table =>
    obtain ⟨r, p, he⟩ | ⟨id, -, -, he⟩ := activateTable_cases tag table s
    · rw [Machine.frameBody, he]
      exact h.of_sameHead (sameHead_answer _ _ _ _ _)
    · rw [Machine.frameBody, he]
      exact (h.activate id).of_sameHead (sameHead_answer _ _ _ _ _)
  | clear tag selector =>
    simp only [Machine.frameBody, requestClear]
    split
    · exact h
    · exact (h.dispatchClear _).of_sameHead (sameHead_answer _ _ _ _ _)
  | headReset tag =>
    have hu := (slurrySafe_iff.mp h).headResetSru s.headTime
    rw [slurrySafe_iff]
    simpa [Machine.frameBody, requestHeadReset] using hu
  | panelStart tag d0 ox oy => exact h.of_eq (by simp [Machine.frameBody]) (by simp [Machine.frameBody])
  | tableOpen tag table =>
    simp only [Machine.frameBody, openTable]
    split <;> exact h
  | tableWrite tag table row fields =>
    simp only [Machine.frameBody, writeTable]
    repeat' split
    all_goals exact h
  | _ => simp [headFrame] at hi

theorem slurrySafe.eventEffect (h : slurrySafe s) {c : Instr} (hc : headEvent c = true) :
    slurrySafe (eventEffect c s) := by
  cases c with
  | offTimeExpiry unit =>
    cases unit with
    | drum d => exact h.of_eq (by simp [Machine.eventEffect, offTimeEnds]) (by simp [Machine.eventEffect, offTimeEnds])
    | pump => exact h.pumpOffTimeExpiry
  | primeTimeout =>
    simp only [Machine.eventEffect, primeExpiry]
    split
    · exact h.tripPump _
    · exact h
  | dryTimeout =>
    simp only [Machine.eventEffect, dryExpiry]
    split
    · exact h.tripPump _
    · exact h
  | refreshDeadline =>
    simp only [Machine.eventEffect, refreshExpiry]
    split
    · exact h.holdFeed
    · exact h
  | linkTimeout | relockTimeout | strokeTimeout | dwellEnd =>
    exact h.of_eq (by simp [Machine.eventEffect]) (by simp [Machine.eventEffect])
  | _ => simp [headEvent] at hc

end

/-- Everything that acts on the head keeps the unit safe. -/
theorem slurrySafe_kept : KeptByHead slurrySafe where
  same _ _ he h := h.of_sameHead he
  reset := slurrySafe_iff.mpr unitSafe_reset
  lock _ _ h := h.of_eq (by simp) (by simp)
  frame _ _ hi hlink h := h.frameBody hi hlink
  event _ _ hc h := h.eventEffect hc
  sample role payload _ h := h.deliverSample role payload
  notice role payload _ h := h.deliverWithNotice role payload
  lost role _ h := h.lostNotice role

/-- Settles O56: what each owner of an effect on the unit keeps, by the parts of the step. -/
theorem slurryStaysSafe : Obligations.SlurryStaysSafe := by
  unfold Obligations.SlurryStaysSafe
  intro s t _ h he
  exact slurrySafe_kept.kept.step h he

end Sys2Proof.Safety

namespace Sys2Proof.Machine

open Sys2Proof.Safety

/-! SUPPORT. The rows of a bank as lists of field values: what a row written, or a table copied, leaves of every row (R153,
R154, R155). -/

/-! ### Fields in their ranges -/

@[simp] theorem inRange_nil_iff {vs : List Int} : inRange [] vs = true ↔ vs = [] := by
  cases vs <;> simp [inRange]

@[simp] theorem inRange_cons_iff {f : FieldSpec} {fs : List FieldSpec} {vs : List Int} :
    inRange (f :: fs) vs = true ↔ ∃ v ws, vs = v :: ws ∧ (f.lo ≤ v ∧ v ≤ f.hi) ∧ inRange fs ws = true := by
  cases vs with
  | nil => simp [inRange]
  | cons v ws => simp [inRange]

/-- Field values that lie in the ranges of a row are those of the item made from them. -/
def RowCodec {α : Type} (specs : List FieldSpec) (fields : α → List Int) (ofFields : α → List Int → α) : Prop :=
  ∀ (old : α) (vs : List Int), inRange specs vs = true → fields (ofFields old vs) = vs

theorem policyCode_policyOf {v : Int} (h : 0 ≤ v ∧ v ≤ 1) : policyCode (policyOf v) = v := by
  obtain rfl | rfl : v = 0 ∨ v = 1 := by omega
  all_goals rfl

theorem sensorCode_sensorOf {v : Int} (h : 0 ≤ v ∧ v ≤ 1) : sensorCode (sensorOf v) = v := by
  obtain rfl | rfl : v = 0 ∨ v = 1 := by omega
  all_goals rfl

theorem roleCode_roleOf {v : Int} (h : 1 ≤ v ∧ v ≤ 7) : (roleCode (roleOf v) : Int) = v := by
  obtain rfl | rfl | rfl | rfl | rfl | rfl | rfl : v = 1 ∨ v = 2 ∨ v = 3 ∨ v = 4 ∨ v = 5 ∨ v = 6 ∨ v = 7 := by omega
  all_goals rfl

theorem boolNat_testBits {v : Int} (h : 0 ≤ v ∧ v ≤ 3) :
    (boolNat (v.toNat.testBit 0) : Int) + 2 * boolNat (v.toNat.testBit 1) = v := by
  obtain rfl | rfl | rfl | rfl : v = 0 ∨ v = 1 ∨ v = 2 ∨ v = 3 := by omega
  all_goals rfl

theorem boolNat_decide_eq_one {v : Int} (h : 0 ≤ v ∧ v ≤ 1) : (boolNat (decide (v = 1)) : Int) = v := by
  obtain rfl | rfl : v = 0 ∨ v = 1 := by omega
  all_goals rfl

theorem drumParams_codec : RowCodec drumParamSpecs drumParamFields drumParamsOf := by
  intro old vs h
  simp only [drumParamSpecs, inRange_cons_iff, inRange_nil_iff] at h
  obtain ⟨v0, _, rfl, h0, v1, _, rfl, h1, v2, _, rfl, h2, v3, _, rfl, h3, v4, _, rfl, h4, v5, _, rfl, h5, v6, _, rfl, h6,
    v7, _, rfl, h7, v8, _, rfl, h8, v9, _, rfl, h9, v10, _, rfl, h10, v11, _, rfl, h11, v12, _, rfl, h12, rfl⟩ := h
  simp only [drumParamsOf, drumParamFields, policyCode_policyOf h8, List.cons.injEq, and_true, true_and]
  omega

theorem curve_codec : RowCodec curveSpecs curveFields curveOf := by
  intro old vs h
  simp only [curveSpecs, inRange_cons_iff, inRange_nil_iff] at h
  obtain ⟨v0, _, rfl, h0, v1, _, rfl, h1, rfl⟩ := h
  simp only [curveOf, curveFields, List.cons.injEq, and_true]
  omega

theorem pollParams_codec : RowCodec pollParamSpecs pollParamFields pollParamsOf := by
  intro old vs h
  simp only [pollParamSpecs, inRange_cons_iff, inRange_nil_iff] at h
  obtain ⟨v0, _, rfl, h0, v1, _, rfl, h1, v2, _, rfl, h2, v3, _, rfl, h3, v4, _, rfl, h4, rfl⟩ := h
  simp only [pollParamsOf, pollParamFields, List.cons.injEq, and_true]
  omega

theorem pollRow_codec : RowCodec pollRowSpecs pollRowFields pollRowOf := by
  intro old vs h
  simp only [pollRowSpecs, inRange_cons_iff, inRange_nil_iff] at h
  obtain ⟨v0, _, rfl, h0, v1, _, rfl, h1, v2, _, rfl, h2, v3, _, rfl, h3, rfl⟩ := h
  simp only [pollRowOf, pollRowFields, optionsCode, roleCode_roleOf h1, boolNat_testBits h3, List.cons.injEq, and_true, true_and]
  omega

theorem mountingParams_codec : RowCodec mountingParamSpecs mountingParamFields mountingParamsOf := by
  intro old vs h
  simp only [mountingParamSpecs, inRange_cons_iff, inRange_nil_iff] at h
  obtain ⟨v0, _, rfl, h0, v1, _, rfl, h1, v2, _, rfl, h2, v3, _, rfl, h3, v4, _, rfl, h4, v5, _, rfl, h5, rfl⟩ := h
  simp only [mountingParamsOf, mountingParamFields, sensorCode_sensorOf h5, List.cons.injEq, and_true]
  omega

theorem mountingOffsets_codec : RowCodec mountingOffsetSpecs mountingOffsetFields mountingOffsetsOf := by
  intro old vs h
  simp only [mountingOffsetSpecs, inRange_cons_iff, inRange_nil_iff] at h
  obtain ⟨v0, _, rfl, h0, v1, _, rfl, h1, v2, _, rfl, h2, rfl⟩ := h
  rfl

theorem planCount_codec : RowCodec planCountSpecs (fun n : Nat => [(n : Int)]) planCountOf := by
  intro old vs h
  simp only [planCountSpecs, inRange_cons_iff, inRange_nil_iff] at h
  obtain ⟨v0, _, rfl, h0, rfl⟩ := h
  simp only [planCountOf, List.cons.injEq, and_true]
  omega

theorem planRow_codec : RowCodec planRowSpecs planRowFields planRowOf := by
  intro old vs h
  simp only [planRowSpecs, inRange_cons_iff, inRange_nil_iff] at h
  obtain ⟨v0, _, rfl, h0, v1, _, rfl, h1, v2, _, rfl, h2, v3, _, rfl, h3, rfl⟩ := h
  simp only [planRowOf, planRowFields, List.cons.injEq, and_true]
  omega

theorem steeringParams_codec : RowCodec steeringParamSpecs steeringParamFields steeringParamsOf := by
  intro old vs h
  simp only [steeringParamSpecs, inRange_cons_iff, inRange_nil_iff] at h
  obtain ⟨v0, _, rfl, h0, v1, _, rfl, h1, v2, _, rfl, h2, v3, _, rfl, h3, v4, _, rfl, h4, v5, _, rfl, h5, v6, _, rfl, h6,
    v7, _, rfl, h7, v8, _, rfl, h8, rfl⟩ := h
  simp only [steeringParamsOf, steeringParamFields, List.cons.injEq, and_true]
  omega

/-- The bands of the three sections differ in their ranges only, which have no negative values. -/
theorem band_codec {e o : FieldSpec} (he : 0 ≤ e.lo) (ho : 0 ≤ o.lo) : RowCodec [e, o] bandFields bandOf := by
  intro old vs h
  simp only [inRange_cons_iff, inRange_nil_iff] at h
  obtain ⟨v0, _, rfl, h0, v1, _, rfl, h1, rfl⟩ := h
  simp only [bandOf, bandFields, List.cons.injEq, and_true]
  omega

theorem slurryGround_codec : RowCodec slurryGroundSpecs slurryGroundFields slurryGroundOf := by
  intro old vs h
  simp only [slurryGroundSpecs, inRange_cons_iff, inRange_nil_iff] at h
  obtain ⟨v0, _, rfl, h0, v1, _, rfl, h1, v2, _, rfl, h2, v3, _, rfl, h3, rfl⟩ := h
  simp only [slurryGroundOf, slurryGroundFields, List.cons.injEq, and_true]
  omega

theorem slurryLevels_codec : RowCodec slurryLevelSpecs slurryLevelFields slurryLevelsOf := by
  intro old vs h
  simp only [slurryLevelSpecs, inRange_cons_iff, inRange_nil_iff] at h
  obtain ⟨v0, _, rfl, h0, v1, _, rfl, h1, v2, _, rfl, h2, v3, _, rfl, h3, v4, _, rfl, h4, v5, _, rfl, h5, v6, _, rfl, h6,
    v7, _, rfl, h7, v8, _, rfl, h8, v9, _, rfl, h9, v10, _, rfl, h10, v11, _, rfl, h11, v12, _, rfl, h12, rfl⟩ := h
  simp only [slurryLevelsOf, slurryLevelFields, List.cons.injEq, and_true]
  omega

theorem slurryPump_codec : RowCodec slurryPumpSpecs slurryPumpFields slurryPumpOf := by
  intro old vs h
  simp only [slurryPumpSpecs, inRange_cons_iff, inRange_nil_iff] at h
  obtain ⟨v0, _, rfl, h0, v1, _, rfl, h1, v2, _, rfl, h2, v3, _, rfl, h3, v4, _, rfl, h4, v5, _, rfl, h5, v6, _, rfl, h6,
    v7, _, rfl, h7, v8, _, rfl, h8, rfl⟩ := h
  simp only [slurryPumpOf, slurryPumpFields, policyCode_policyOf h8, List.cons.injEq, and_true, true_and]
  omega

theorem link_codec : RowCodec linkSpecs linkFields linkTableOf := by
  intro old vs h
  simp only [linkSpecs, inRange_cons_iff, inRange_nil_iff] at h
  obtain ⟨v0, _, rfl, h0, v1, _, rfl, h1, v2, _, rfl, h2, v3, _, rfl, h3, rfl⟩ := h
  simp only [linkTableOf, linkFields, boolNat_decide_eq_one h3, List.cons.injEq, and_true]
  omega

/-! ### A list of rows -/

section
variable {α : Type} {fields : α → List Int} {ofFields : α → List Int → α} {rows : List α} {i j : Nat} {vs : List Int}

/-- A row replaced in a list that holds it, as a row in its ranges shows, has the values written. -/
theorem fieldsAt_setAt_self {f : FieldSpec} {fs : List FieldSpec} (hc : RowCodec (f :: fs) fields ofFields)
    (hrow : inRange (f :: fs) (fieldsAt fields rows i) = true) (hvs : inRange (f :: fs) vs = true) :
    fieldsAt fields (setAt ofFields rows i vs) i = vs := by
  cases hi : rows[i]? with
  | none =>
    rw [fieldsAt, hi] at hrow
    simp [inRange] at hrow
  | some r => simpa [fieldsAt, setAt, hi] using hc r vs hvs

/-- The other rows of the list are as they were. -/
theorem fieldsAt_setAt_of_ne (h : j ≠ i) : fieldsAt fields (setAt ofFields rows i vs) j = fieldsAt fields rows j := by
  simp [fieldsAt, setAt, h.symm]

end

/-! ### One bank -/

/-- The rows of a table are read from that table alone. -/
theorem rowFields_congr {t : TableId} {a b : Tables} (h : sameTable t a b) (row : Nat) :
    rowFields a t row = rowFields b t row := by
  cases t <;> simp only [sameTable] at h <;> simp only [rowFields, h]

/-- A row written leaves every other table. -/
theorem sameTable_setRow {t u : TableId} (h : u ≠ t) (b : Tables) (row : Nat) (vs : List Int) :
    sameTable u (setRow b t row vs) b := by
  cases t <;> cases u <;> simp only [setRow] <;> repeat' split
  all_goals first | rfl | contradiction

/-- The number of the last row of a table (section 8.1). -/
def lastRow : TableId → Nat
  | .drum => 16
  | .poll => 16
  | .mounting => 2
  | .plan => 32
  | .steering => 24
  | .slurry => 2
  | .link => 0

theorem rowSpecs_ne_none_iff {t : TableId} {row : Nat} : rowSpecs t row ≠ none ↔ row ≤ lastRow t := by
  cases t <;> simp only [rowSpecs, lastRow]
  all_goals repeat' split
  all_goals simp only [ne_eq, reduceCtorEq, not_false_eq_true, not_true_eq_false, true_iff, false_iff]
  all_goals omega

section
variable {b : Tables} {t : TableId} {row : Nat} {specs : List FieldSpec} {vs : List Int}

/-- A row written into a bank that holds it has the values written. -/
theorem rowFields_setRow_self (hb : bankInRange b) (hs : rowSpecs t row = some specs) (hvs : inRange specs vs = true) :
    rowFields (setRow b t row vs) t row = vs := by
  have hrow := hb t row specs hs
  cases t with
  | drum =>
    simp only [rowSpecs] at hs
    split at hs
    · next h0 =>
      cases hs
      simpa only [setRow, rowFields, h0, if_true] using drumParams_codec _ _ hvs
    split at hs
    · next h0 _ =>
      cases hs
      by_cases h8 : row ≤ 8
      · simp only [setRow, rowFields, h0, h8, if_false, if_true] at hrow ⊢
        exact fieldsAt_setAt_self curve_codec hrow hvs
      · simp only [setRow, rowFields, h0, h8, if_false] at hrow ⊢
        exact fieldsAt_setAt_self curve_codec hrow hvs
    · cases hs
  | poll =>
    simp only [rowSpecs] at hs
    split at hs
    · next h0 =>
      cases hs
      simpa only [setRow, rowFields, h0, if_true] using pollParams_codec _ _ hvs
    split at hs
    · next h0 _ =>
      cases hs
      simp only [setRow, rowFields, h0, if_false] at hrow ⊢
      exact fieldsAt_setAt_self pollRow_codec hrow hvs
    · cases hs
  | mounting =>
    simp only [rowSpecs] at hs
    split at hs
    · next h0 =>
      cases hs
      simpa only [setRow, rowFields, h0, if_true] using mountingParams_codec _ _ hvs
    split at hs
    · next h0 _ =>
      cases hs
      by_cases h1 : row = 1
      · subst h1
        exact mountingOffsets_codec b.mounting.offsetsA _ hvs
      · simpa only [setRow, rowFields, h0, h1, if_false] using mountingOffsets_codec b.mounting.offsetsB _ hvs
    · cases hs
  | plan =>
    simp only [rowSpecs] at hs
    split at hs
    · next h0 =>
      cases hs
      simpa only [setRow, rowFields, h0, if_true] using planCount_codec b.plan.count _ hvs
    split at hs
    · next h0 _ =>
      cases hs
      simp only [setRow, rowFields, h0, if_false] at hrow ⊢
      exact fieldsAt_setAt_self planRow_codec hrow hvs
    · cases hs
  | steering =>
    simp only [rowSpecs] at hs
    split at hs
    · next h0 =>
      cases hs
      simpa only [setRow, rowFields, h0, if_true] using steeringParams_codec _ _ hvs
    split at hs
    · next h0 h8 =>
      cases hs
      simp only [setRow, rowFields, h0, h8, if_false, if_true] at hrow ⊢
      exact fieldsAt_setAt_self (band_codec (by decide) (by decide)) hrow hvs
    split at hs
    · next h0 h8 h16 =>
      cases hs
      simp only [setRow, rowFields, h0, h8, h16, if_false, if_true] at hrow ⊢
      exact fieldsAt_setAt_self (band_codec (by decide) (by decide)) hrow hvs
    split at hs
    · next h0 h8 h16 _ =>
      cases hs
      simp only [setRow, rowFields, h0, h8, h16, if_false] at hrow ⊢
      exact fieldsAt_setAt_self (band_codec (by decide) (by decide)) hrow hvs
    · cases hs
  | slurry =>
    simp only [rowSpecs] at hs
    split at hs
    · next h0 =>
      cases hs
      simpa only [setRow, rowFields, h0, if_true] using slurryGround_codec _ _ hvs
    split at hs
    · next h0 h1 =>
      cases hs
      subst h1
      exact slurryLevels_codec b.slurry.levels _ hvs
    split at hs
    · next h0 h1 _ =>
      cases hs
      simpa only [setRow, rowFields, h0, h1, if_false] using slurryPump_codec _ _ hvs
    · cases hs
  | link =>
    simp only [rowSpecs] at hs
    split at hs
    · cases hs
      exact link_codec _ _ hvs
    · cases hs

/-- A row written leaves every other row of the table. -/
theorem rowFields_setRow_of_ne {r : Nat} (hs : rowSpecs t row ≠ none) (hr : rowSpecs t r ≠ none) (hne : r ≠ row) :
    rowFields (setRow b t row vs) t r = rowFields b t r := by
  rw [rowSpecs_ne_none_iff] at hs hr
  cases t <;> simp only [lastRow] at hs hr <;> simp only [setRow, rowFields]
  all_goals repeat' split
  all_goals first
    | rfl
    | omega
    | exact fieldsAt_setAt_of_ne (by omega)

end

end Sys2Proof.Machine

namespace Sys2Proof.Machine

open Sys2Proof.Safety

/-! SUPPORT. Bytes and the values they spell, least significant first, and the rows of tables as bytes (00_scope.md, Wire
encoding; R154, R155). -/

/-! ### Numbers as bytes -/

theorem ofLe_lt (bs : List Byte) : ofLe bs < 256 ^ bs.length := by
  induction bs with
  | nil => simp [ofLe]
  | cons b bs ih =>
    have hb : b.toNat < 256 := b.isLt
    simp only [ofLe, List.length_cons, pow_succ]
    omega

theorem ofLe_leBytes (n v : Nat) : ofLe (leBytes n v) = v % 256 ^ n := by
  induction n generalizing v with
  | zero => simp [leBytes, ofLe, Nat.mod_one]
  | succ n ih =>
    have hpow : 256 ^ (n + 1) = 256 * 256 ^ n := by rw [pow_succ, Nat.mul_comm]
    simp only [leBytes, ofLe, ih, BitVec.toNat_ofNat, hpow]
    rw [Nat.mod_mul]

theorem leBytes_ofLe (bs : List Byte) : leBytes bs.length (ofLe bs) = bs := by
  induction bs with
  | nil => rfl
  | cons b bs ih =>
    have hb : b.toNat < 256 := b.isLt
    have hdiv : (b.toNat + 256 * ofLe bs) / 256 = ofLe bs := by omega
    simp only [List.length_cons, leBytes, ofLe, hdiv, ih, List.cons.injEq, and_true]
    apply BitVec.eq_of_toNat_eq
    simp only [BitVec.toNat_ofNat]
    omega

theorem ofLe_leBytes_of_lt {n v : Nat} (h : v < 256 ^ n) : ofLe (leBytes n v) = v := by
  rw [ofLe_leBytes, Nat.mod_eq_of_lt h]

/-! ### Integers as bytes -/

theorem ofLeSigned_leInt {n : Nat} {v : Int} (hlo : -((256 : Int) ^ n) ≤ 2 * v) (hhi : 2 * v < (256 : Int) ^ n) :
    ofLeSigned (leInt n v) = v := by
  have hpos : (0 : Int) < 256 ^ n := by positivity
  have hcast : ((256 ^ n : Nat) : Int) = 256 ^ n := by push_cast; rfl
  have hmod : 0 ≤ v % (256 : Int) ^ n := Int.emod_nonneg _ hpos.ne'
  have hlt : v % (256 : Int) ^ n < 256 ^ n := Int.emod_lt_of_pos _ hpos
  have hle : ofLe (leInt n v) = (v % (256 : Int) ^ n).toNat := by
    rw [leInt, hcast]
    exact ofLe_leBytes_of_lt (by zify [hmod]; omega)
  unfold ofLeSigned
  rw [hle, length_leInt]
  zify
  rw [Int.toNat_of_nonneg hmod]
  rcases Int.lt_or_le v 0 with hneg | hnonneg
  · have he : v % (256 : Int) ^ n = v + 256 ^ n := by
      rw [← Int.add_emod_right, Int.emod_eq_of_lt (by omega) (by omega)]
    rw [he, if_neg (by omega)]
    omega
  · have he : v % (256 : Int) ^ n = v := Int.emod_eq_of_lt hnonneg (by omega)
    rw [he, if_pos hhi]

theorem leInt_ofLeSigned (bs : List Byte) : leInt bs.length (ofLeSigned bs) = bs := by
  have hlt := ofLe_lt bs
  have he : (ofLeSigned bs % (256 ^ bs.length : Nat)).toNat = ofLe bs := by
    unfold ofLeSigned
    split
    · rw [Int.emod_eq_of_lt (by omega) (by omega)]
      omega
    · rw [Int.sub_emod_right, Int.emod_eq_of_lt (by omega) (by omega)]
      omega
  rw [leInt, he, leBytes_ofLe]

theorem leInt_of_nonneg {n : Nat} {v : Int} (hlo : 0 ≤ v) (hhi : v < (256 ^ n : Nat)) : leInt n v = leBytes n v.toNat := by
  rw [leInt, Int.emod_eq_of_lt hlo hhi]

/-! ### The fields of a row -/

/-- The range of a field lies in its width, in two's complement where it has negative values (R155). -/
def FieldSpec.Fits (f : FieldSpec) : Prop :=
  if f.lo < 0 then -((256 : Int) ^ f.bytes) ≤ 2 * f.lo ∧ 2 * f.hi < (256 : Int) ^ f.bytes
  else f.hi < (256 : Int) ^ f.bytes

/-- A field read from the bytes it was written to. -/
theorem FieldSpec.read_leInt {f : FieldSpec} (hf : f.Fits) {v : Int} (hv : f.lo ≤ v ∧ v ≤ f.hi) :
    f.read (leInt f.bytes v) = v := by
  unfold FieldSpec.Fits at hf
  unfold FieldSpec.read
  split
  · next hneg =>
    rw [if_pos hneg] at hf
    exact ofLeSigned_leInt (by omega) (by omega)
  · next hpos =>
    rw [if_neg hpos] at hf
    have hhi : v < (256 ^ f.bytes : Nat) := by push_cast; omega
    rw [leInt_of_nonneg (by omega) hhi, ofLe_leBytes_of_lt (by omega)]
    omega

/-- The bytes that a field was read from are those it is written to. -/
theorem FieldSpec.leInt_read (f : FieldSpec) {bs : List Byte} (h : bs.length = f.bytes) : leInt f.bytes (f.read bs) = bs := by
  unfold FieldSpec.read
  rw [← h]
  split
  · exact leInt_ofLeSigned bs
  · rw [leInt_of_nonneg (by omega) (by exact_mod_cast ofLe_lt bs), Int.toNat_natCast, leBytes_ofLe]

/-- A row is read from bytes exactly when its fields lie in their ranges and the bytes are those they are written to. -/
theorem readFields_eq_some_iff {specs : List FieldSpec} (hfits : ∀ f ∈ specs, f.Fits) {bs : List Byte} {vs : List Int} :
    readFields specs bs = some vs ↔ inRange specs vs = true ∧ writeFields specs vs = bs := by
  induction specs generalizing bs vs with
  | nil =>
    cases bs <;> cases vs <;> simp [readFields, writeFields, inRange]
  | cons f fs ih =>
    have ih := @ih (fun g hg => hfits g (List.mem_cons_of_mem f hg))
    have hf := hfits f List.mem_cons_self
    constructor
    · intro h
      simp only [readFields] at h
      split at h
      · cases h
      next hlen =>
      split at h
      · next hv =>
        obtain ⟨ws, hws, rfl⟩ := Option.map_eq_some_iff.mp h
        obtain ⟨hin, hbytes⟩ := ih.mp hws
        refine ⟨by simp [hv, hin], ?_⟩
        rw [writeFields, hbytes, f.leInt_read (by simp; omega), List.take_append_drop]
      · cases h
    · rintro ⟨hin, rfl⟩
      obtain ⟨v, ws, rfl, hv, hws⟩ := inRange_cons_iff.mp hin
      have hrest := ih.mpr ⟨hws, rfl⟩
      simp [readFields, writeFields, FieldSpec.read_leInt hf hv, hv, hrest]

/-- Every field of every row fits its width. -/
theorem rowSpecs_fits {t : TableId} {row : Nat} {specs : List FieldSpec} (h : rowSpecs t row = some specs) :
    ∀ f ∈ specs, f.Fits := by
  have hall : ∀ fs ∈ [drumParamSpecs, curveSpecs, pollParamSpecs, pollRowSpecs, mountingParamSpecs, mountingOffsetSpecs,
      planCountSpecs, planRowSpecs, steeringParamSpecs, bandXSpecs, bandYSpecs, bandTSpecs, slurryGroundSpecs,
      slurryLevelSpecs, slurryPumpSpecs, linkSpecs], ∀ f ∈ fs, f.Fits := by
    unfold FieldSpec.Fits
    decide
  refine hall specs ?_
  cases t <;> simp only [rowSpecs] at h
  all_goals repeat' split at h
  all_goals first
    | contradiction
    | cases h; simp

/-! ### The banks stay in their ranges -/

theorem bankInRange_copyTable {source b : Tables} (hs : bankInRange source) (hb : bankInRange b) (id : TableId) :
    bankInRange (copyTable id source b) := by
  intro t row specs h
  by_cases ht : t = id
  · subst ht
    rw [rowFields_congr (sameTable_copyTable t source b)]
    exact hs t row specs h
  · rw [rowFields_congr (sameTable_copyTable_of_ne ht source b)]
    exact hb t row specs h

theorem bankInRange_setRow {b : Tables} (hb : bankInRange b) {id : TableId} {row : Nat} {specs : List FieldSpec}
    {vs : List Int} (hs : rowSpecs id row = some specs) (hvs : inRange specs vs = true) :
    bankInRange (setRow b id row vs) := by
  intro t r other h
  by_cases ht : t = id
  · subst ht
    by_cases hr : r = row
    · subst hr
      rw [rowFields_setRow_self hb hs hvs]
      rw [hs] at h
      cases h
      exact hvs
    · rw [rowFields_setRow_of_ne (by simp [hs]) (by simp [h]) hr]
      exact hb t r other h
  · rw [rowFields_congr (sameTable_setRow ht b row vs)]
    exact hb t r other h

theorem bankInRange_default : bankInRange defaultTables := by
  intro t row specs h
  have hrow : row ≤ lastRow t := rowSpecs_ne_none_iff.mp (by simp [h])
  have hall : ∀ t ∈ [TableId.drum, .poll, .mounting, .plan, .steering, .slurry, .link], ∀ r < 33, ∀ fs ∈ rowSpecs t r,
      inRange fs (rowFields defaultTables t r) = true := by decide
  exact hall t (by cases t <;> simp) row (by cases t <;> simp only [lastRow] at hrow <;> omega) specs h

end Sys2Proof.Machine

namespace Sys2Proof.Safety

open Sys2Proof.Machine

section
variable {s t : State}

theorem banksInRange.of_eq (h : banksInRange s) (htst : t.tst = s.tst) : banksInRange t := by
  unfold banksInRange
  rwa [htst]

theorem banksInRange.openTable (h : banksInRange s) (tag table : Byte) : banksInRange (openTable tag table s) := by
  unfold Machine.openTable
  split
  · exact h
  · exact ⟨h.1, bankInRange_copyTable h.1 h.2 _⟩

theorem banksInRange.writeTable (h : banksInRange s) (tag table row : Byte) (fields : List Byte) :
    banksInRange (writeTable tag table row fields s) := by
  unfold Machine.writeTable
  split
  · exact h
  split
  · exact h
  next specs hspecs =>
  split
  · exact h
  next vs hvs =>
  exact ⟨h.1, bankInRange_setRow h.2 hspecs ((readFields_eq_some_iff (rowSpecs_fits hspecs)).mp hvs).1⟩

theorem banksInRange.activateTable (h : banksInRange s) (tag table : Byte) :
    banksInRange (activateTable tag table s) := by
  obtain ⟨r, p, he⟩ | ⟨id, -, -, he⟩ := activateTable_cases tag table s
  · exact h.of_eq (by rw [he, answer_tst])
  · have hcopied : banksInRange (s.setTst { s.tst with active := copyTable id s.tst.load s.tst.active }) :=
      ⟨bankInRange_copyTable h.2 h.1 id, h.2⟩
    exact hcopied.of_eq (by rw [he, answer_tst, activationEffects_tst])

end

/-- Everything that acts on the head keeps the fields of the tables in their ranges. -/
theorem banksInRange_kept : KeptByHead banksInRange where
  same _ _ he h := by
    obtain ⟨-, -, -, -, -, -, -, htst, -⟩ := he
    exact h.of_eq htst
  reset := ⟨bankInRange_default, bankInRange_default⟩
  lock _ _ h := h.of_eq (by simp)
  frame i s hi _ h := by
    cases i with
    | tableOpen tag table => exact h.openTable tag table
    | tableWrite tag table row fields => exact h.writeTable tag table row fields
    | tableActivate tag table => exact h.activateTable tag table
    | control | panelStart | clear | headReset => exact h.of_eq (by simp [frameBody])
    | _ => simp [headFrame] at hi
  event c s hc h := by
    cases c with
    | offTimeExpiry unit => cases unit <;> exact h.of_eq (by simp [eventEffect, offTimeEnds])
    | linkTimeout | relockTimeout | primeTimeout | dryTimeout | refreshDeadline | strokeTimeout | dwellEnd =>
      exact h.of_eq (by simp [eventEffect])
    | _ => simp [headEvent] at hc
  sample _ _ _ h := h.of_eq (by simp)
  notice _ _ _ h := h.of_eq (by simp)
  lost _ _ h := h.of_eq (by simp)

end Sys2Proof.Safety

namespace Sys2Proof.Safety

open Sys2Proof.Machine

/-! SUPPORT. Every step keeps the Drift Log well formed (R1, R17, R21, R25). -/

/-- The station interval of a bank in its ranges is positive (8.6.3). -/
theorem bankInRange.stationInterval_pos {b : Tables} (h : bankInRange b) : 0 < b.mounting.params.stationInterval := by
  have hrow := h .mounting 0 _ rfl
  simp only [mountingParamSpecs, inRange_cons_iff] at hrow
  obtain ⟨v, _, he, hv, -⟩ := hrow
  cases he
  omega

section
variable {s t : State}

theorem logSafe.of_eq (h : logSafe s) (hlog : t.vtr.log = s.vtr.log)
    (hstate : t.vtr.state = .noPanel ↔ s.vtr.state = .noPanel) : logSafe t := by
  unfold logSafe
  rw [hlog, hstate]
  exact h

theorem logSafe.of_vtr (h : logSafe s) (hvtr : t.vtr = s.vtr) : logSafe t := h.of_eq (by rw [hvtr]) (by rw [hvtr])

/-! ### The tracker -/

/-- A known depth gives no state of a tracker without a panel. -/
theorem depthState_ne_noPanel (m : MountingParams) (dFace d : Nat) : depthState m dFace d ≠ .noPanel := by
  unfold depthState
  split <;> simp

theorem loseDepth_state (v : Vtr) : (loseDepth v).state = .noPanel ↔ v.state = .noPanel := by
  by_cases hv : v.state = .noPanel <;> simp [loseDepth, hv]

theorem logSafe.loseDepth (h : logSafe s) : logSafe (s.setVtr (loseDepth s.vtr)) := h.of_eq rfl (loseDepth_state _)

theorem accumulated_log (m : MountingTable) (x : Sensor) (y : InclSample) (v : Vtr) :
    (accumulated m x y v).log = v.log ∧ (accumulated m x y v).state = v.state := by
  cases x <;> simp only [accumulated] <;> split <;> simp

/-- Station 0 alone is a well-formed log. -/
theorem logSafe_panelStarted (m : MountingParams) (d0 : Nat) (ox oy : Int) (v : Vtr) :
    logSafe (s.setVtr (panelStarted m d0 ox oy v)) := by
  refine ⟨by simp [panelStarted, logCapacity], ?_, by simp [panelStarted], ?_⟩
  · rintro (_ | i) r hr
    · cases hr
      exact ⟨rfl, by simp [startRecord]⟩
    · simp [panelStarted] at hr
  · have hstate : (panelStarted m d0 ox oy v).state ≠ .noPanel := by
      cases hd : v.depth <;> simp [panelStarted, hd, depthState_ne_noPanel]
    simp only [State.setVtr_vtr, hstate, false_iff]
    simp [panelStarted]

/-- A record that follows the last one, with the length as its index and a greater depth, keeps the log well formed. -/
theorem logSafe.append (h : logSafe s) {r last : StationRecord} (hlast : s.vtr.log.getLast? = some last)
    (hroom : s.vtr.log.length < logCapacity) (hindex : r.index = s.vtr.log.length) (hstart : r.flags.start = false)
    (hdepth : last.depth < r.depth) (hvtr : t.vtr.log = s.vtr.log ++ [r])
    (hstate : t.vtr.state = s.vtr.state) : logSafe t := by
  obtain ⟨-, hrecords, hrising, hempty⟩ := h
  have hne : s.vtr.log ≠ [] := by
    intro he
    simp [he] at hlast
  unfold logSafe
  rw [hvtr, hstate, hempty]
  refine ⟨by simpa using hroom, ?_, ?_, by simp [hne]⟩
  · intro i x hx
    rw [List.getElem?_append] at hx
    split at hx
    · exact hrecords i x hx
    · next hi =>
      obtain ⟨hzero, rfl⟩ : i - s.vtr.log.length = 0 ∧ r = x := by
        simpa [List.getElem?_singleton] using hx
      have hpos : 0 < s.vtr.log.length := List.length_pos_of_ne_nil hne
      exact ⟨by omega, by simp [hstart]; omega⟩
  · rw [List.pairwise_append]
    refine ⟨hrising, List.pairwise_singleton _ _, ?_⟩
    intro x hx y hy
    rw [List.mem_singleton] at hy
    subst hy
    have hsplit : s.vtr.log = s.vtr.log.dropLast ++ [last] := (List.dropLast_append_getLast? last hlast).symm
    rw [hsplit] at hx hrising
    rcases List.mem_append.mp hx with hx | hx
    · exact ((List.pairwise_append.mp hrising).2.2 x hx last (by simp)).trans hdepth
    · rw [List.mem_singleton.mp hx]
      exact hdepth

theorem logSafe.closeTest (h : logSafe s) (hi : 0 < s.tst.active.mounting.params.stationInterval) (d : Nat) :
    logSafe (closeTest d s) := by
  unfold Machine.closeTest
  split
  · exact h
  next r hr =>
  split
  · next hdepth =>
    split
    · next hroom =>
      refine h.append (r := closeRecord s.tst.active.mounting.params s.vtr r d) hr hroom rfl rfl ?_ ?_ ?_
      · simp only [closeRecord]
        omega
      · simp [closeStation]
      · simp [closeStation, clearOpen]
    · unfold refuseClose
      split
      · exact h.of_eq rfl Iff.rfl
      · exact h
  · exact h

theorem logSafe.takeDepth (h : logSafe s) (hi : 0 < s.tst.active.mounting.params.stationInterval) (v : Nat) :
    logSafe (takeDepth v s) := by
  unfold Machine.takeDepth
  split
  · simp only [acceptDepth]
    split
    · exact h.of_eq rfl Iff.rfl
    next hpanel =>
    have hplaced : ∀ u : State, u.vtr.log = s.vtr.log →
        u.vtr.state = depthState s.tst.active.mounting.params s.vtr.dFace v → logSafe u := by
      intro u hlog hstate
      refine h.of_eq hlog ?_
      rw [hstate]
      exact iff_of_false (depthState_ne_noPanel _ _ _) hpanel
    split
    · refine logSafe.closeTest (hplaced _ ?_ ?_) ?_ v
      · simp
      · simp
      · simpa using hi
    · exact hplaced _ rfl rfl
  · exact h.of_eq rfl Iff.rfl

/-! ### Every step -/

theorem logSafe.deliverControl (h : logSafe s) (hb : banksInRange s) (hlink : s.ulp.link ≠ .hunt) (f : ControlFields) :
    logSafe (deliverControl f s) := by
  rw [deliverControl_eq f s hlink]
  have hfields : logSafe (fieldsTaken f (controlLink s)) := h.of_vtr (controlLink_vtr s)
  have hi : 0 < (fieldsTaken f (controlLink s)).tst.active.mounting.params.stationInterval := by
    simpa [fieldsTaken] using hb.1.stationInterval_pos
  exact (hfields.takeDepth hi f.depth.toNat).of_vtr (by simp)

theorem linkNotices_vtr (hunt : Bool) (s : State) : (linkNotices hunt s).vtr = loseDepth s.vtr := by simp [linkNotices]

theorem logSafe_linkNotices (h : logSafe s) (hunt : Bool) (hvtr : t.vtr = s.vtr) : logSafe (linkNotices hunt t) := by
  have ht : logSafe t := h.of_vtr hvtr
  exact ht.loseDepth.of_vtr (linkNotices_vtr _ _)

theorem logSafe.frameBody (h : logSafe s) (hb : banksInRange s) {i : Instr} (hi : headFrame i = true)
    (hlink : s.ulp.link ≠ .hunt) : logSafe (frameBody i s) := by
  cases i with
  | control tag f => exact h.deliverControl hb hlink f
  | panelStart tag d0 ox oy =>
    simp only [Machine.frameBody, requestPanelStart]
    split
    · exact (logSafe_panelStarted (s := s) s.tst.active.mounting.params d0.toNat ox.toInt oy.toInt s.vtr).of_vtr
        (by simp [startPanel])
    · exact h
  | headReset tag =>
    refine h.loseDepth.of_eq ?_ ?_
    · simp [Machine.frameBody, requestHeadReset, headResetVtr, clearOpen]
    · simp [Machine.frameBody, requestHeadReset, headResetVtr, clearOpen]
  | tableOpen | tableWrite | tableActivate | clear => exact h.of_vtr (by simp [Machine.frameBody])
  | _ => simp [headFrame] at hi

theorem logSafe.eventEffect (h : logSafe s) {c : Instr} (hc : headEvent c = true) : logSafe (eventEffect c s) := by
  cases c with
  | linkTimeout =>
    simp only [Machine.eventEffect, linkExpiry]
    split
    · exact logSafe_linkNotices h false (by simp)
    · exact h
  | relockTimeout =>
    simp only [Machine.eventEffect, relockExpiry]
    split
    · exact logSafe_linkNotices h true (by simp)
    · exact h
  | offTimeExpiry unit => cases unit <;> exact h.of_vtr (by simp [Machine.eventEffect, offTimeEnds])
  | primeTimeout | dryTimeout | refreshDeadline | strokeTimeout | dwellEnd =>
    exact h.of_vtr (by simp [Machine.eventEffect])
  | _ => simp [headEvent] at hc

theorem logSafe.inclSample (h : logSafe s) (x : Sensor) (y : InclSample) : logSafe (inclSample x y s) := by
  obtain ⟨hlog, hstate⟩ := accumulated_log s.tst.active.mounting x y s.vtr
  have hsample : (Machine.inclSample x y s).vtr = accumulated s.tst.active.mounting x y s.vtr := by
    simp [Machine.inclSample]
  exact h.of_eq (by rw [hsample, hlog]) (by rw [hsample, hstate])

theorem logSafe.deliverSample (h : logSafe s) (role : Role) (payload : List Byte) :
    logSafe (deliverSample role payload s) := by
  cases role with
  | inclA | inclB => exact h.inclSample _ _
  | drumL | drumR | slurry | flap | aux => exact h.of_vtr (by simp [Machine.deliverSample])

theorem logSafe.deliverWithNotice (h : logSafe s) (role : Role) (payload : List Byte) :
    logSafe (deliverWithNotice role payload s) := by
  cases role with
  | inclA | inclB | slurry => exact h.deliverSample _ _
  | drumL | drumR | flap | aux => exact h.of_vtr (by simp [Machine.deliverWithNotice])

end

/-- Everything that acts on the head keeps the log well formed, and the tables in their ranges, on which the depths of
the log rest. -/
theorem logSafe_kept : KeptByHead fun s => banksInRange s ∧ logSafe s where
  same s t he h := ⟨banksInRange_kept.same s t he h.1, h.2.of_vtr he.1⟩
  reset := ⟨banksInRange_kept.reset, by simp [logSafe, State.reset, resetVtr]⟩
  lock s hl h := ⟨banksInRange_kept.lock s hl h.1, h.2.of_vtr (by simp)⟩
  frame i s hi hl h := ⟨banksInRange_kept.frame i s hi hl h.1, h.2.frameBody h.1 hi hl⟩
  event c s hc h := ⟨banksInRange_kept.event c s hc h.1, h.2.eventEffect hc⟩
  sample role payload s h := ⟨banksInRange_kept.sample role payload s h.1, h.2.deliverSample role payload⟩
  notice role payload s h := ⟨banksInRange_kept.notice role payload s h.1, h.2.deliverWithNotice role payload⟩
  lost role s h := ⟨banksInRange_kept.lost role s h.1, h.2.of_vtr (by simp)⟩

/-- Settles O59: the log and the ranges of the tables are kept together, by the parts of the step. -/
theorem driftLogStaysFormed : Obligations.DriftLogStaysFormed := by
  unfold Obligations.DriftLogStaysFormed
  intro s t hb h he
  exact (logSafe_kept.kept.step ⟨hb, h⟩ he).2

end Sys2Proof.Safety

namespace Sys2Proof.Machine

/-! SUPPORT. The speeds and factors that the commanded speed of a drum is formed from stay under N_max and 1,000 (R58 to
R64, R110). -/

@[simp] theorem onGovernor_governor (f : Governor → Governor) (d e : Drum) (s : State) :
    (onGovernor f d s).governor e = if e = d then f (s.governor e) else s.governor e := by
  cases d <;> cases e <;> rfl

@[simp] theorem onGovernors_governor (f : Governor → Governor) (e : Drum) (s : State) :
    (onGovernors f s).governor e = f (s.governor e) := by
  cases e <;> rfl

theorem splitTarget_le (base nMax : Nat) (deltaN : Int) (d : Drum) : splitTarget base nMax deltaN d ≤ nMax := by
  cases d <;> simp only [splitTarget] <;> omega

/-- With a load factor of at most 1,000 no composed target is above N_max (R60 to R62). -/
theorem composedTarget_le {f : Nat} (hf : f ≤ 1000) (nSet nMax : Nat) (deltaN : Int) (d : Drum) :
    composedTarget nSet nMax deltaN f d ≤ nMax := by
  simp only [composedTarget]
  split
  · exact Nat.zero_le _
  · calc splitTarget (min nSet nMax) nMax deltaN d * f / 1000
        ≤ splitTarget (min nSet nMax) nMax deltaN d * 1000 / 1000 := Nat.div_le_div_right (Nat.mul_le_mul_left _ hf)
      _ = splitTarget (min nSet nMax) nMax deltaN d := Nat.mul_div_cancel _ (by decide)
      _ ≤ nMax := splitTarget_le _ _ _ _

open Sys2Proof.Safety in
/-- The load factors of a bank in its ranges are per-mille (8.6.6). -/
theorem levelFactor_le {b : Tables} (h : bankInRange b) (level : Nat) : levelFactor b.slurry.levels level ≤ 1000 := by
  have hrow : inRange slurryLevelSpecs (slurryLevelFields b.slurry.levels) = true := h .slurry 1 _ rfl
  simp only [slurryLevelSpecs, slurryLevelFields, inRange, Bool.and_eq_true, decide_eq_true_eq] at hrow
  unfold levelFactor
  split <;> omega

open Sys2Proof.Safety in
theorem loadFactor_le {s : State} (h : bankInRange s.tst.active) : loadFactor s ≤ 1000 := by
  have hlevel := levelFactor_le h s.sru.level
  simp only [loadFactor]
  split
  · exact hlevel
  · exact (Nat.min_le_left _ _).trans hlevel

theorem measured_le (x : DrumSample) (running : Direction) : measured x running ≤ 400 := by
  unfold measured
  split
  · exact Nat.min_le_left _ _
  · exact Nat.zero_le _

theorem dutyStage_duty_le (t : DrumTable) (d : Drum) (g : Governor) : (dutyStage t d g).duty ≤ 1000 := by
  simp only [dutyStage, clamp]
  omega

end Sys2Proof.Machine

namespace Sys2Proof.Safety

open Sys2Proof.Machine

/-! SUPPORT. Every step keeps the governors safe, their speeds under N_max and the active tables within their checks (R48
to R92, R156 to R158). -/

/-! ### One governor -/

/-- A governor is safe and its commanded speed is at most N_max: `governorSafe` with its conditions named, and the
speed. -/
structure DrumSafe (l : LinkState) (nMax : Nat) (g : Governor) : Prop where
  still : driving g = false → g.speed = 0 ∧ g.duty = 0
  run : g.state = .run → l = .online
  off : g.state = .off → g.requested = g.running
  duty : g.duty ≤ 1000
  residue : g.residue ≤ 999
  nMeas : g.nMeas ≤ 400
  speed : g.speed ≤ nMax

theorem drumSafe_iff {l : LinkState} {nMax : Nat} {g : Governor} :
    DrumSafe l nMax g ↔ governorSafe l g ∧ g.speed ≤ nMax := by
  constructor
  · rintro ⟨h1, h2, h3, h4, h5, h6, h7⟩
    exact ⟨⟨h1, h2, h3, h4, h5, h6⟩, h7⟩
  · rintro ⟨⟨h1, h2, h3, h4, h5, h6⟩, h7⟩
    exact ⟨h1, h2, h3, h4, h5, h6, h7⟩

namespace DrumSafe

variable {l : LinkState} {nMax : Nat} {g : Governor} (h : DrumSafe l nMax g)
include h

theorem relink {l' : LinkState} (hl : l = .online → l' = .online) : DrumSafe l' nMax g :=
  { h with run := fun hrun => hl (h.run hrun) }

/-- Under another N_max a governor that does not drive is safe, for its speed is 0. -/
theorem newLimit (hstill : driving g = false) (nMax' : Nat) : DrumSafe l nMax' g :=
  { h with speed := by simp [(h.still hstill).1] }

/-- The protection and the last enable do not enter. -/
theorem inputs (e : Bool) (p : Protection) : DrumSafe l nMax { g with lastEnable := e, prot := p } :=
  ⟨h.1, h.2, h.3, h.4, h.5, h.6, h.7⟩

theorem enterRun (hl : l = .online) : DrumSafe l nMax (enterRun g) :=
  { duty := h.duty, nMeas := h.nMeas
    still := by simp [driving, Machine.enterRun]
    run := fun _ => hl
    off := by simp [Machine.enterRun]
    residue := Nat.zero_le _
    speed := Nat.zero_le _ }

theorem enterOff (l' : LinkState) : DrumSafe l' nMax (enterOff g) :=
  { nMeas := h.nMeas
    still := fun _ => ⟨rfl, rfl⟩
    run := by simp [Machine.enterOff]
    off := fun _ => rfl
    duty := Nat.zero_le _
    residue := Nat.zero_le _
    speed := Nat.zero_le _ }

theorem enterNofb : DrumSafe l nMax (enterNofb g) :=
  { nMeas := h.nMeas
    still := fun _ => ⟨rfl, rfl⟩
    run := by simp [Machine.enterNofb]
    off := by simp [Machine.enterNofb]
    duty := Nat.zero_le _
    residue := Nat.zero_le _
    speed := Nat.zero_le _ }

/-- RUN left for STOPPING, under any link state. -/
theorem stopping (l' : LinkState) : DrumSafe l' nMax { g with state := .stopping } :=
  { duty := h.duty, nMeas := h.nMeas, residue := h.residue, speed := h.speed
    still := by simp [driving]
    run := by simp
    off := by simp }

/-- A stop into TRIP or LOCKOUT. -/
theorem tripped {x : GovernorState} (hrun : x ≠ .run) (hoff : x ≠ .off) (p : Protection) :
    DrumSafe l nMax { g with state := x, speed := 0, duty := 0, prot := p } :=
  { nMeas := h.nMeas, residue := h.residue
    still := fun _ => ⟨rfl, rfl⟩
    run := fun he => absurd he hrun
    off := fun he => absurd he hoff
    duty := Nat.zero_le _
    speed := Nat.zero_le _ }

/-- TRIP TIMING left for TRIP WAITING. -/
theorem waiting (hstill : driving g = false) : DrumSafe l nMax { g with state := .trip .waiting } :=
  { duty := h.duty, nMeas := h.nMeas, residue := h.residue, speed := h.speed
    still := fun _ => h.still hstill
    run := by simp
    off := by simp }

theorem directionTaken (v : Byte) : DrumSafe l nMax (directionTaken v g) := by
  unfold Machine.directionTaken
  split
  · exact h
  · split
    · exact { h with off := fun _ => rfl }
    · next hoff => exact { h with off := fun he => absurd he hoff }

theorem enableTaken (alive en : Bool) : DrumSafe .online nMax (enableTaken true alive en g) := by
  have hon : DrumSafe .online nMax g := h.relink fun _ => rfl
  have hlast : ∀ x, DrumSafe .online nMax x → DrumSafe .online nMax { x with lastEnable := en } := fun x hx =>
    hx.inputs en x.prot
  refine hlast _ ?_
  split
  · split
    · exact hon.enterRun rfl
    · exact hon
  · split
    · exact hon.stopping _
    · exact hon.inputs g.lastEnable _
    all_goals exact hon

theorem dutyStage (hd : driving g = true) (t : DrumTable) (d : Drum) : DrumSafe l nMax (dutyStage t d g) :=
  { nMeas := h.nMeas, residue := h.residue, speed := h.speed, run := h.run, off := h.off
    still := fun hstill => by
      have he : driving (Machine.dutyStage t d g) = driving g := rfl
      rw [he, hd] at hstill
      simp at hstill
    duty := dutyStage_duty_le t d g }

/-- The standstill and duty stages of an update. -/
theorem directionAndDuty (hd : driving g = true) (t : DrumTable) (d : Drum) :
    DrumSafe l nMax (directionAndDuty t d g) := by
  unfold Machine.directionAndDuty
  split
  · exact h.enterOff l
  split
  · next hrun =>
    have hchanged : DrumSafe l nMax { g with running := g.requested, integrator := 0 } := { h with off := fun _ => rfl }
    exact hchanged.dutyStage hd t d
  · exact h.dutyStage hd t d

/-- An update toward a target of at most N_max. -/
theorem updateStages (hd : driving g = true) {composed : Nat} (hc : composed ≤ nMax) (now : HeadTime) (t : DrumTable)
    (d : Drum) : DrumSafe l nMax (updateStages now t d composed g) := by
  simp only [Machine.updateStages]
  obtain ⟨speed, residue, he, hr⟩ :=
    ramp_ramped t.params (if g.state = .run ∧ changePending g = false then composed else 0)
      (elapsed g.prevUpdate now) { g with prevUpdate := some now }
  rw [he]
  have hramped : DrumSafe l nMax { g with prevUpdate := some now, speed := speed, residue := residue } :=
    { duty := h.duty, nMeas := h.nMeas, run := h.run, off := h.off
      still := fun hstill => by
        have hsame : driving { g with prevUpdate := some now, speed := speed, residue := residue } = driving g := rfl
        rw [hsame, hd] at hstill
        simp at hstill
      residue := Machine.Ramped.residue_lt hr
      speed := by
        refine (Machine.Ramped.le_max hr).trans (max_le h.speed ?_)
        split
        · exact hc
        · exact Nat.zero_le _ }
  exact hramped.directionAndDuty hd t d

theorem governorLost : DrumSafe l nMax (governorLost g) := by
  unfold Machine.governorLost
  split
  · exact h.enterNofb
  · exact h.enterNofb
  · exact h.enterNofb
  all_goals exact h

theorem governorReturned (hnofb : g.state = .nofb) (afterChange : Bool) (x : DrumSample) :
    DrumSafe l nMax (governorReturned afterChange x g) := by
  have he : governorAlive g = Machine.enterOff g := if_pos hnofb
  simp only [Machine.governorReturned, he]
  exact { h.enterOff l with nMeas := measured_le _ _ }

/-- The notice of an entry into LOSS or HUNT leaves no governor in RUN. -/
theorem governorLinkNotice (l' : LinkState) : DrumSafe l' nMax (governorLinkNotice g) := by
  unfold Machine.governorLinkNotice
  split
  · exact h.stopping l'
  · next hs => exact { h.inputs g.lastEnable _ with run := by simp [hs] }
  all_goals
    next hs => exact { h with run := by simp [hs] }

theorem governorCleared : DrumSafe l nMax (governorCleared g) := by
  have hcleared := h.inputs g.lastEnable (protectionAfterClear g.prot)
  simp only [Machine.governorCleared]
  split
  · exact hcleared.enterOff l
  · exact hcleared.enterOff l
  all_goals exact hcleared

theorem governorHeadReset : DrumSafe l nMax (governorHeadReset g) := by
  have hpermit : ∀ x, DrumSafe l nMax x → DrumSafe l nMax { x with lastEnable := true, prot := { g.prot with permit := false } } :=
    fun x hx => hx.inputs true _
  refine hpermit _ ?_
  split
  · exact h
  · exact DrumSafe.enterOff (g := { g with requested := g.running }) { h with off := fun _ => rfl } l

end DrumSafe

/-! ### Both governors -/

/-- Both governors are safe and their speeds are at most the active N_max. -/
def drumsSafe (s : State) : Prop := ∀ d : Drum, DrumSafe s.ulp.link s.tst.active.drum.params.nMax (s.governor d)

section
variable {s t : State}

theorem drumsSafe_iff : drumsSafe s ↔ governorsSafe s ∧ speedsWithinLimit s := by
  simp only [drumsSafe, governorsSafe, speedsWithinLimit, drumSafe_iff, forall_and]

theorem drumsSafe.of_eq (h : drumsSafe s) (hg : ∀ d, t.governor d = s.governor d) (hlink : t.ulp.link = s.ulp.link)
    (htst : t.tst.active.drum = s.tst.active.drum) : drumsSafe t := by
  intro d
  rw [hg, hlink, htst]
  exact h d

theorem drumsSafe.of_sameHead (h : drumsSafe s) (he : SameHead s t) : drumsSafe t := by
  obtain ⟨-, -, hl, hr, -, -, -, htst, hlink⟩ := he
  refine h.of_eq (fun d => ?_) hlink (by rw [htst])
  cases d
  · exact hl
  · exact hr

theorem drumsSafe.setGovernor (h : drumsSafe s) {d : Drum} {g : Governor}
    (hg : DrumSafe s.ulp.link s.tst.active.drum.params.nMax g) : drumsSafe (s.setGovernor d g) := by
  intro e
  rw [State.setGovernor_governor, State.setGovernor_ulp, State.setGovernor_tst]
  split
  · exact hg
  · exact h e

theorem drumsSafe.onGovernors (h : drumsSafe s) {f : Governor → Governor}
    (hf : ∀ {l n g}, DrumSafe l n g → DrumSafe l n (f g)) : drumsSafe (onGovernors f s) := by
  intro d
  rw [onGovernors_governor, onGovernors_ulp, onGovernors_tst]
  exact hf (h d)

theorem drumsSafe.tripDrum (h : drumsSafe s) (d : Drum) (pressure : Nat) : drumsSafe (tripDrum d pressure s) := by
  simp only [Machine.tripDrum]
  refine (h.setGovernor (d := d) ((h d).tripped (x := if _ then _ else _) ?_ ?_ _)).of_eq (fun _ => post_governor _ _ _ _ _)
    (by simp) (by simp)
  all_goals split <;> simp

theorem drumsSafe.drumSample (h : drumsSafe s) (hb : banksInRange s) (d : Drum) (x : DrumSample) :
    drumsSafe (drumSample d x s) := by
  have hmeas : DrumSafe s.ulp.link s.tst.active.drum.params.nMax
      { s.governor d with nMeas := measured x (s.governor d).running } := { h d with nMeas := measured_le _ _ }
  rw [drumSample_eq d x s _ rfl]
  split
  next hd =>
    split
    · exact (h.setGovernor hmeas).tripDrum d _
    · exact h.setGovernor (hmeas.updateStages hd (composedTarget_le (loadFactor_le hb.1) _ _ _ _) _ _ _)
  · exact h.setGovernor hmeas

theorem drumsSafe.drumOffTimeExpiry (h : drumsSafe s) (d : Drum) : drumsSafe (drumOffTimeExpiry d s) := by
  simp only [Machine.drumOffTimeExpiry]
  split
  next deadline htrip =>
    have hstill : driving (s.governor d) = false := by simp [driving, htrip]
    split
    · split
      next hrestart =>
        have hl : s.ulp.link = .online := by
          by_contra hl
          simp only [expiryOutcome, online, hl] at hrestart
          split at hrestart <;> split at hrestart <;> simp_all
        exact h.setGovernor ((h d).enterRun hl)
      · exact h.setGovernor ((h d).waiting hstill)
      · exact h.setGovernor ((h d).enterOff _)
    · exact h
  all_goals exact h

theorem drumsSafe.lostNotice (h : drumsSafe s) (role : Role) : drumsSafe (lostNotice role s) := by
  cases role with
  | drumL => exact h.setGovernor (d := .left) (h .left).governorLost
  | drumR => exact h.setGovernor (d := .right) (h .right).governorLost
  | inclA | inclB | slurry | flap | aux =>
    exact h.of_eq (fun d => by cases d <;> simp [Machine.lostNotice]) (by simp) (by simp)

theorem drumsSafe.deliverSample (h : drumsSafe s) (hb : banksInRange s) (role : Role) (payload : List Byte) :
    drumsSafe (deliverSample role payload s) := by
  cases role with
  | drumL | drumR => exact h.drumSample hb _ _
  | inclA | inclB | slurry | flap | aux =>
    exact h.of_eq (fun d => by simp [Machine.deliverSample]) (PortKept.deliverSample s _ _).link (by simp)

theorem drumsSafe.deliverWithNotice (h : drumsSafe s) (hb : banksInRange s) (role : Role) (payload : List Byte) :
    drumsSafe (deliverWithNotice role payload s) := by
  have hdrum : ∀ d x, drumsSafe (drumSampleWithNotice d x s) := by
    intro d x
    unfold drumSampleWithNotice
    split
    · next hnofb =>
      have hset : drumsSafe (s.setGovernor d (governorReturned (Config.nMeasAfterChange s.freeSeq) x (s.governor d))) :=
        h.setGovernor ((h d).governorReturned hnofb _ _)
      exact hset.of_eq (fun e => by simp [onGovernor]) (by simp) (by simp)
    · exact h.drumSample hb _ _
  cases role with
  | drumL | drumR => exact hdrum _ _
  | inclA | inclB | slurry => exact h.deliverSample hb _ _
  | flap | aux =>
    exact h.of_eq (fun d => by simp [Machine.deliverWithNotice]) (PortKept.deliverWithNotice s _ _).link (by simp)

theorem drumsSafe.deliverControl (h : drumsSafe s) (hlink : s.ulp.link ≠ .hunt) (f : ControlFields) :
    drumsSafe (deliverControl f s) := by
  rw [deliverControl_eq f s hlink]
  have hcontrol : drumsSafe (controlLink s) := by
    intro d
    rw [controlLink_eq s hlink]
    exact (h d).relink fun _ => rfl
  have honline : (controlLink s).ulp.link = .online := by rw [controlLink_eq s hlink]
  have hfields : drumsSafe (fieldsTaken f (controlLink s)) := by
    have htaken : ∀ d v e, DrumSafe .online s.tst.active.drum.params.nMax (governorTaken (controlLink s) d v e) := by
      intro d v e
      have hd := hcontrol d
      rw [controlLink_tst] at hd
      exact (hd.directionTaken v).enableTaken _ _
    intro d
    have hl : (fieldsTaken f (controlLink s)).ulp.link = .online := honline
    have ht : (fieldsTaken f (controlLink s)).tst = s.tst := controlLink_tst s
    rw [hl, ht]
    cases d
    · exact htaken _ _ _
    · exact htaken _ _ _
  exact hfields.of_eq (fun d => by simp) (by simp [(PortKept.takeDepth (fieldsTaken f (controlLink s)) f.depth.toNat).link])
    (by simp)

theorem drumsSafe_linkNotices {l : LinkState}
    (h : ∀ d, DrumSafe l s.tst.active.drum.params.nMax (s.governor d)) (hunt : Bool) : drumsSafe (linkNotices hunt s) := by
  intro d
  have hg : (linkNotices hunt s).governor d = governorLinkNotice (s.governor d) := by simp [linkNotices]
  rw [hg, linkNotices_tst]
  exact (h d).governorLinkNotice _

/-- An activation keeps the governors safe: that of the Drum Table finds them both OFF (R158). -/
theorem drumsSafe.activate (h : drumsSafe s) {id : TableId} (hlock : lockRefuses id s = false) :
    drumsSafe (activationEffects id (s.setTst { s.tst with active := copyTable id s.tst.load s.tst.active })) := by
  cases id with
  | drum =>
    have hoff : ∀ d, (s.governor d).state = .off := by
      have hboth : s.governorL.state = .off ∧ s.governorR.state = .off := by simpa [lockRefuses] using hlock
      intro d
      cases d
      · exact hboth.1
      · exact hboth.2
    refine drumsSafe.onGovernors (f := governorActivated) (fun d => ?_) (fun hg => hg.inputs _ _)
    exact (h d).newLimit (by simp [driving, hoff d]) _
  | poll =>
    exact KeptByHead.pollActivated (fun _ _ he hs => hs.of_sameHead he) (fun role _ hs => hs.lostNotice role)
      (h.of_eq (fun _ => rfl) rfl rfl)
  | slurry | mounting | plan | steering | link =>
    exact h.of_eq (fun d => by simp [Machine.activationEffects]) (by simp) (by simp [copyTable])

theorem drumsSafe.dispatchClear (h : drumsSafe s) (x : ClearSelector) : drumsSafe (dispatchClear x s) := by
  cases x with
  | drum d => exact h.setGovernor (h d).governorCleared
  | pump | plates => exact h.of_eq (fun d => by simp [Machine.dispatchClear]) (by simp) (by simp)
  | all =>
    have hboth : drumsSafe (Machine.onGovernors governorCleared s) := h.onGovernors fun hg => hg.governorCleared
    exact hboth.of_eq (fun d => by simp [Machine.dispatchClear]) (by simp) (by simp)

theorem drumsSafe.frameBody (h : drumsSafe s) {i : Instr} (hi : headFrame i = true) (hlink : s.ulp.link ≠ .hunt) :
    drumsSafe (frameBody i s) := by
  cases i with
  | control tag f => exact h.deliverControl hlink f
  | tableActivate tag table =>
    obtain ⟨r, p, he⟩ | ⟨id, -, hlock, he⟩ := activateTable_cases tag table s
    · rw [Machine.frameBody, he]
      exact h.of_sameHead (sameHead_answer _ _ _ _ _)
    · rw [Machine.frameBody, he]
      exact (h.activate hlock).of_sameHead (sameHead_answer _ _ _ _ _)
  | clear tag selector =>
    simp only [Machine.frameBody, requestClear]
    split
    · exact h
    · exact (h.dispatchClear _).of_sameHead (sameHead_answer _ _ _ _ _)
  | headReset tag =>
    have hboth : drumsSafe (Machine.onGovernors governorHeadReset s) := h.onGovernors fun hg => hg.governorHeadReset
    exact hboth.of_eq (fun d => by simp [Machine.frameBody, requestHeadReset]) (by simp [Machine.frameBody])
      (by simp [Machine.frameBody])
  | panelStart tag d0 ox oy =>
    refine h.of_eq (fun d => by simp [Machine.frameBody]) ?_ (by simp [Machine.frameBody])
    simp only [Machine.frameBody, requestPanelStart]
    split
    · exact (PortKept.startPanel s _ _ _).link
    · rfl
  | tableOpen tag table =>
    simp only [Machine.frameBody, openTable]
    split <;> exact h.of_eq (fun _ => rfl) rfl rfl
  | tableWrite tag table row fields =>
    simp only [Machine.frameBody, writeTable]
    repeat' split
    all_goals exact h.of_eq (fun _ => rfl) rfl rfl
  | _ => simp [headFrame] at hi

theorem drumsSafe.eventEffect (h : drumsSafe s) {c : Instr} (hc : headEvent c = true) : drumsSafe (eventEffect c s) := by
  cases c with
  | linkTimeout =>
    simp only [Machine.eventEffect, linkExpiry]
    split
    · exact drumsSafe_linkNotices (l := s.ulp.link) (fun d => by simpa using h d) false
    · exact h
  | relockTimeout =>
    simp only [Machine.eventEffect, relockExpiry]
    split
    · exact drumsSafe_linkNotices (l := s.ulp.link) (fun d => by simpa using h d) true
    · exact h
  | offTimeExpiry unit =>
    cases unit with
    | drum d => exact h.drumOffTimeExpiry d
    | pump =>
      exact h.of_eq (fun d => by simp [Machine.eventEffect, offTimeEnds]) (by simp [Machine.eventEffect, offTimeEnds])
        (by simp [Machine.eventEffect, offTimeEnds])
  | refreshDeadline =>
    exact h.of_eq (fun d => by simp [Machine.eventEffect]) (PortKept.refreshExpiry s).link (by simp [Machine.eventEffect])
  | primeTimeout | dryTimeout | strokeTimeout | dwellEnd =>
    exact h.of_eq (fun d => by simp [Machine.eventEffect]) (by simp [Machine.eventEffect]) (by simp [Machine.eventEffect])
  | _ => simp [headEvent] at hc

theorem drumsSafe_reset : drumsSafe State.reset := by
  intro d
  cases d <;> constructor <;> simp [State.reset, State.governor, resetGovernor]

end

/-! ### The cross-row checks -/

theorem failingRow_congr {t : TableId} {a b : Tables} (h : sameTable t a b) : failingRow a t = failingRow b t := by
  cases t <;> simp only [sameTable] at h <;> simp only [failingRow, h]

section
variable {s t : State}

theorem activePasses.of_eq (h : activePasses s) (htst : t.tst.active = s.tst.active) : activePasses t := by
  unfold activePasses
  rwa [htst]

/-- A load bank that passes its check makes an active bank that passes. -/
theorem activePasses.activateTable (h : activePasses s) (tag table : Byte) : activePasses (activateTable tag table s) := by
  obtain ⟨r, p, he⟩ | ⟨id, hpass, -, he⟩ := activateTable_cases tag table s
  · exact h.of_eq (by rw [he, answer_tst])
  · have hcopied : activePasses (s.setTst { s.tst with active := copyTable id s.tst.load s.tst.active }) := by
      intro other
      by_cases ho : other = id
      · subst ho
        exact (failingRow_congr (sameTable_copyTable other _ _)).trans hpass
      · exact (failingRow_congr (sameTable_copyTable_of_ne ho _ _)).trans (h other)
    exact hcopied.of_eq (by rw [he, answer_tst, activationEffects_tst])

end

theorem activePasses_reset : activePasses State.reset := by
  intro t
  cases t <;> decide

/-- Everything that acts on the head keeps the active tables within their checks. -/
theorem activePasses_kept : KeptByHead activePasses where
  same _ _ he h := by
    obtain ⟨-, -, -, -, -, -, -, htst, -⟩ := he
    exact h.of_eq (by rw [htst])
  reset := activePasses_reset
  lock _ _ h := h.of_eq (by simp)
  frame i s hi _ h := by
    cases i with
    | tableActivate tag table => exact h.activateTable tag table
    | tableOpen tag table =>
      simp only [frameBody, openTable]
      split <;> exact h.of_eq rfl
    | tableWrite tag table row fields =>
      simp only [frameBody, writeTable]
      repeat' split
      all_goals exact h.of_eq rfl
    | control | panelStart | clear | headReset => exact h.of_eq (by simp [frameBody])
    | _ => simp [headFrame] at hi
  event c s hc h := by
    cases c with
    | offTimeExpiry unit => cases unit <;> exact h.of_eq (by simp [eventEffect, offTimeEnds])
    | linkTimeout | relockTimeout | primeTimeout | dryTimeout | refreshDeadline | strokeTimeout | dwellEnd =>
      exact h.of_eq (by simp [eventEffect])
    | _ => simp [headEvent] at hc
  sample _ _ _ h := h.of_eq (by simp)
  notice _ _ _ h := h.of_eq (by simp)
  lost _ _ h := h.of_eq (by simp)

/-! ### Every step -/

/-- Everything that acts on the head keeps the governors safe, and the tables in their ranges, which bound the load
factor. -/
theorem drumsSafe_kept : KeptByHead fun s => banksInRange s ∧ drumsSafe s where
  same s t he h := ⟨banksInRange_kept.same s t he h.1, h.2.of_sameHead he⟩
  reset := ⟨banksInRange_kept.reset, drumsSafe_reset⟩
  lock s hl h := by
    refine ⟨banksInRange_kept.lock s hl h.1, fun d => ?_⟩
    rw [lockLink_governor, lockLink_tst]
    exact (h.2 d).relink fun _ => rfl
  frame i s hi hl h := ⟨banksInRange_kept.frame i s hi hl h.1, h.2.frameBody hi hl⟩
  event c s hc h := ⟨banksInRange_kept.event c s hc h.1, h.2.eventEffect hc⟩
  sample role payload s h := ⟨banksInRange_kept.sample role payload s h.1, h.2.deliverSample h.1 role payload⟩
  notice role payload s h := ⟨banksInRange_kept.notice role payload s h.1, h.2.deliverWithNotice h.1 role payload⟩
  lost role s h := ⟨banksInRange_kept.lost role s h.1, h.2.lostNotice role⟩

/-- Settles O55: the ranges of the tables, their checks and the governors with their speeds, each kept by the parts of the
step. -/
theorem tablesAndGovernorsStaySafe : Obligations.TablesAndGovernorsStaySafe := by
  unfold Obligations.TablesAndGovernorsStaySafe
  intro s t hb hpass hg hspeed he
  obtain ⟨hb', hdrums⟩ := drumsSafe_kept.kept.step ⟨hb, drumsSafe_iff.mpr ⟨hg, hspeed⟩⟩ he
  exact ⟨hb', activePasses_kept.kept.step hpass he, drumsSafe_iff.mp hdrums⟩

end Sys2Proof.Safety

namespace Sys2Proof.Safety

open Sys2Proof.Machine

/-! SUPPORT. Every step keeps the link port consistent (R169 to R172, R174, R179, R184). -/

/-- The port with its status deadline is consistent: `linkSafe` with its conditions named. -/
structure LinkFormed (u : Ulp) (status : Option HeadTime) : Prop where
  dwell : u.dwellDeadline.isSome = true ↔ u.link = .hunt
  deadline : u.linkDeadline.isSome = true ↔ u.link = .online
  relock : u.relockDeadline.isSome = true ↔ u.link = .loss
  status : status.isSome = true ↔ u.link ≠ .hunt
  rx : u.link = .hunt → u.rx = .waitStart
  lockRun : u.lockRun ≤ 7
  discards : u.discards ≤ 7
  hunt : u.link = .hunt → u.uplink = .silent ∨ u.uplink = .sending
  linked : u.link ≠ .hunt → u.uplink ≠ .silent
  sending : u.uplink = .sending → u.tx.isSome = true
  resting : u.uplink = .idle ∨ u.uplink = .silent → u.tx = none

theorem linkSafe_iff {s : State} : linkSafe s ↔ LinkFormed s.ulp s.rpu.statusDeadline := by
  constructor
  · rintro ⟨h1, h2, h3, h4, h5, h6, h7, h8, h9, h10, h11⟩
    exact ⟨h1, h2, h3, h4, h5, h6, h7, h8, h9, h10, h11⟩
  · rintro ⟨h1, h2, h3, h4, h5, h6, h7, h8, h9, h10, h11⟩
    exact ⟨h1, h2, h3, h4, h5, h6, h7, h8, h9, h10, h11⟩

/-- The link state, its timers, the assembly and the transmission are the same. -/
def LinkKept (s t : State) : Prop :=
  t.ulp
      = { s.ulp with
          answers := t.ulp.answers
          telemetry := t.ulp.telemetry
          feedHold := t.ulp.feedHold
          statusPending := t.ulp.statusPending
          summary := t.ulp.summary }
    ∧ t.rpu.statusDeadline = s.rpu.statusDeadline

theorem LinkKept.of_eq {s t : State} (hulp : t.ulp = s.ulp) (hrpu : t.rpu = s.rpu) : LinkKept s t :=
  ⟨by rw [hulp], by rw [hrpu]⟩

theorem LinkKept.trans {s t u : State} (h : LinkKept s t) (k : LinkKept t u) : LinkKept s u :=
  ⟨by rw [k.1, h.1], k.2.trans h.2⟩

theorem LinkKept.answer (kind : DownlinkKind) (tag : Byte) (r : ResultCode) (p : List Byte) (s : State) :
    LinkKept s (answer kind tag r p s) := ⟨rfl, rfl⟩

section
variable {s t : State}

theorem linkKept_of_portKept (h : PortKept s t) : LinkKept s t := ⟨by rw [h.ulp], h.deadline⟩

theorem linkSafe.of_kept (h : linkSafe s) (hk : LinkKept s t) : linkSafe t := by
  obtain ⟨hulp, hstatus⟩ := hk
  have hf := linkSafe_iff.mp h
  rw [linkSafe_iff, hulp, hstatus]
  exact ⟨hf.1, hf.2, hf.3, hf.4, hf.5, hf.6, hf.7, hf.8, hf.9, hf.10, hf.11⟩

theorem linkSafe.of_port (h : linkSafe s) (hk : PortKept s t) : linkSafe t := h.of_kept (linkKept_of_portKept hk)

theorem linkSafe.of_eq (h : linkSafe s) (hulp : t.ulp = s.ulp) (hrpu : t.rpu = s.rpu) : linkSafe t :=
  h.of_kept (.of_eq hulp hrpu)

theorem linkSafe.answer (h : linkSafe s) (kind : DownlinkKind) (tag : Byte) (r : ResultCode) (p : List Byte) :
    linkSafe (answer kind tag r p s) := h.of_kept (.answer kind tag r p s)

/-! ### The arbiter and the ends of transmissions -/

theorem linkKept_takeSource (x : UplinkSource) (s : State) : LinkKept s (takeSource x s) := by
  cases x <;> exact ⟨rfl, rfl⟩

theorem linkSafe.startFrame (h : linkSafe s) (f : TxFrame) : linkSafe (startFrame f s) :=
  linkSafe_iff.mpr
    { linkSafe_iff.mp h with
      hunt := fun _ => .inr rfl
      linked := by simp [Machine.startFrame]
      sending := fun _ => rfl
      resting := by simp [Machine.startFrame] }

theorem linkSafe.serveUplink (h : linkSafe s) : linkSafe (serveUplink s) := by
  unfold Machine.serveUplink
  split
  · split
    · exact h
    · exact (h.of_kept (linkKept_takeSource _ s)).startFrame _
  · exact h

/-- The uplink after a frame: SILENT in HUNT, else idle. -/
theorem linkSafe.frameEnd (h : linkSafe s) : linkSafe (frameEnd s) := by
  have hf := linkSafe_iff.mp h
  unfold Machine.frameEnd
  split
  · exact h
  split
  · refine linkSafe_iff.mpr { hf with hunt := fun hl => ?_, linked := fun hl => ?_, sending := ?_, resting := fun _ => rfl }
    · exact .inl (if_pos hl)
    · simp [show s.ulp.link ≠ .hunt from hl]
    · simp only [State.setUlp]
      split <;> simp
  · next hsync =>
    exact linkSafe_iff.mpr { hf with sending := by simp [hsync], resting := fun _ => rfl }
  all_goals exact h

theorem linkSafe.syncReplyDone (h : linkSafe s) : linkSafe (syncReplyDone s) := by
  have hf := linkSafe_iff.mp h
  unfold Machine.syncReplyDone
  split
  · next hsync =>
    have hlink : s.ulp.link ≠ .hunt := fun hl => by simpa [hsync.1] using hf.hunt hl
    exact linkSafe_iff.mpr
      { hf with
        hunt := fun hl => absurd hl hlink
        linked := by simp
        sending := by simp
        resting := fun _ => hsync.2 }
  · exact h

/-! ### The link state and its timers -/

theorem linkKept_decisionPass (s : State) : LinkKept s (decisionPass s) := .of_eq (by simp) (by simp)

theorem linkSafe.lockLink (h : linkSafe s) (hlink : s.ulp.link = .hunt) : linkSafe (lockLink s) := by
  have hf := linkSafe_iff.mp h
  have hrelock : s.ulp.relockDeadline = none := by simpa [hlink] using hf.relock
  refine linkSafe.of_kept (linkSafe_iff.mpr ?_) (linkKept_decisionPass _)
  constructor <;> simp [restartLinkDeadline, startStatusDeadline, hf.discards, hrelock]

theorem linkSafe.huntCharacter (h : linkSafe s) (hlink : s.ulp.link = .hunt) (c : LinkChar) : linkSafe (huntCharacter c s) := by
  have hf := linkSafe_iff.mp h
  unfold Machine.huntCharacter
  split
  · split
    · exact h.lockLink hlink
    · next hrun => exact linkSafe_iff.mpr { hf with lockRun := Nat.le_of_lt_succ (Nat.lt_of_not_le hrun) }
  · exact linkSafe_iff.mpr { hf with lockRun := Nat.zero_le _ }

theorem linkSafe.huntDwellEnds (h : linkSafe s) : linkSafe (huntDwellEnds s) := by
  have hf := linkSafe_iff.mp h
  unfold Machine.huntDwellEnds
  split
  · next hhunt =>
    exact linkSafe_iff.mpr { hf with lockRun := Nat.zero_le _, dwell := by simp [hhunt.1] }
  · exact h

theorem linkSafe.linkExpiry (h : linkSafe s) : linkSafe (linkExpiry s) := by
  have hf := linkSafe_iff.mp h
  unfold Machine.linkExpiry
  split
  · next honline =>
    have hlink : s.ulp.link ≠ .hunt := by simp [honline.1]
    have hloss : linkSafe (s.setUlp
        { s.ulp with
          link := .loss
          linkDeadline := none
          relockDeadline := some (after s.headTime s.tst.active.link.relockTimeout) }) :=
      linkSafe_iff.mpr
        { hf with
          dwell := by simpa [honline.1] using hf.dwell
          deadline := by simp
          relock := by simp
          status := by simpa [honline.1] using hf.status
          rx := by simp
          hunt := by simp
          linked := fun _ => hf.linked hlink }
    exact (hloss.of_port (.post _ .linkLoss .link s.ulp.rate.val)).of_eq (by simp [linkNotices]) (by simp [linkNotices])
  · exact h

theorem linkSafe.relockExpiry (h : linkSafe s) : linkSafe (relockExpiry s) := by
  have hf := linkSafe_iff.mp h
  unfold Machine.relockExpiry
  split
  · next hloss =>
    have hlink : s.ulp.link ≠ .online := by simp [hloss.1]
    have hhunt : LinkFormed
        { s.ulp with
          link := .hunt
          relockDeadline := none
          rx := .waitStart
          lockRun := 0
          dwellDeadline := some (after s.headTime huntDwell)
          uplink := silencedUplink s.ulp } none :=
      { hf with
        dwell := by simp
        deadline := by simpa [hloss.1] using hf.deadline
        relock := by simp
        status := by simp
        rx := fun _ => rfl
        lockRun := Nat.zero_le _
        hunt := fun _ => by
          simp only [silencedUplink]
          split <;> simp
        linked := by simp
        sending := by cases htx : s.ulp.tx <;> simp [silencedUplink, htx]
        resting := by cases htx : s.ulp.tx <;> simp [silencedUplink, htx] }
    rw [linkSafe_iff]
    simpa [linkNotices] using hhunt
  · exact h

theorem linkSafe.statusExpiry (h : linkSafe s) : linkSafe (statusExpiry s) := by
  have hf := linkSafe_iff.mp h
  unfold Machine.statusExpiry
  split
  · next hdue => exact linkSafe_iff.mpr { hf with status := by simp [startStatusDeadline, hdue.1] }
  · exact h

/-! ### Characters and frames -/

theorem linkSafe.gathering (h : linkSafe s) (hlink : s.ulp.link ≠ .hunt) (rx : RxAssembly) :
    linkSafe (s.setUlp { s.ulp with rx := rx }) :=
  linkSafe_iff.mpr { linkSafe_iff.mp h with rx := fun hl => absurd hl hlink }

theorem linkSafe.discardFrame (h : linkSafe s) : linkSafe (discardFrame s) := by
  have hf := linkSafe_iff.mp h
  simp only [Machine.discardFrame]
  split
  · refine linkSafe.of_port (linkSafe_iff.mpr ?_) (PortKept.post (s.setUlp _) _ _ _)
    exact { hf with rx := fun _ => rfl, discards := Nat.zero_le _ }
  · next hrun =>
    exact linkSafe_iff.mpr { hf with rx := fun _ => rfl, discards := Nat.le_of_lt_succ (Nat.lt_of_not_le hrun) }

theorem linkSafe.acceptFrame (h : linkSafe s) : linkSafe (acceptFrame s) :=
  linkSafe_iff.mpr { linkSafe_iff.mp h with rx := fun _ => rfl, discards := Nat.zero_le _ }

theorem linkSafe.controlLink (h : linkSafe s) (hlink : s.ulp.link ≠ .hunt) : linkSafe (controlLink s) := by
  have hf := linkSafe_iff.mp h
  unfold Machine.controlLink
  split
  · next hloss =>
    refine linkSafe.of_port (s := restartLinkDeadline _) (linkSafe_iff.mpr ?_) (.post _ _ _ _)
    exact
      { hf with
        dwell := by simpa [hloss, restartLinkDeadline] using hf.dwell
        deadline := by simp [restartLinkDeadline]
        relock := by simp [restartLinkDeadline]
        status := by simpa [hloss, restartLinkDeadline] using hf.status
        rx := by simp [restartLinkDeadline]
        hunt := by simp [restartLinkDeadline]
        linked := fun _ => hf.linked hlink }
  · next hloss =>
    have honline : s.ulp.link = .online := by
      cases hl : s.ulp.link with
      | online => rfl
      | hunt => exact absurd hl hlink
      | loss => exact absurd hl hloss
    exact linkSafe_iff.mpr { hf with deadline := by simp [restartLinkDeadline, honline] }

theorem linkSafe.deliverControl (h : linkSafe s) (hlink : s.ulp.link ≠ .hunt) (f : ControlFields) :
    linkSafe (deliverControl f s) := by
  rw [deliverControl_eq f s hlink]
  have hfields := (h.controlLink hlink).of_port (.fieldsTaken _ f)
  exact ((hfields.of_port (.takeDepth _ f.depth.toNat)).of_port (.evaluate _)).of_kept (linkKept_decisionPass _)

theorem linkSafe.headReset (h : linkSafe s) (tag : Byte) : linkSafe (requestHeadReset tag s) := by
  have hf := linkSafe_iff.mp h
  have hdeadline : (if s.ulp.link = .online then some (after s.headTime s.tst.active.link.linkTimeout)
      else s.ulp.linkDeadline).isSome = true ↔ s.ulp.link = .online := by
    split
    · next hl => simp [hl]
    · exact hf.deadline
  have hstatus : (if decide (s.ulp.link = .hunt) = true then s.rpu.statusDeadline
      else some (after s.headTime s.tst.active.link.statusPeriod)).isSome = true ↔ s.ulp.link ≠ .hunt := by
    split
    · exact hf.status
    · next hl => simpa using hl
  have hreset : LinkFormed (headResetUlp s.headTime s.tst.active.link s.ulp)
      (headResetRpu s.headTime s.tst.active.link (decide (s.ulp.link = .hunt)) s.rpu).statusDeadline :=
    { dwell := hf.dwell, relock := hf.relock, lockRun := hf.lockRun, hunt := hf.hunt, linked := hf.linked
      sending := hf.sending, resting := hf.resting
      deadline := hdeadline
      status := hstatus
      rx := fun _ => rfl
      discards := Nat.zero_le _ }
  refine linkSafe.answer (linkSafe_iff.mpr ?_) _ _ _ _
  simpa using hreset

theorem linkSafe.frameBody (h : linkSafe s) (i : Instr) (hlink : s.ulp.link ≠ .hunt) : linkSafe (frameBody i s) := by
  cases i with
  | control tag f => exact h.deliverControl hlink f
  | headReset tag => exact h.headReset tag
  | tableActivate tag table =>
    obtain ⟨r, p, he⟩ | ⟨id, -, -, he⟩ := activateTable_cases tag table s
    · rw [Machine.frameBody, he]
      exact h.answer _ _ _ _
    · rw [Machine.frameBody, he]
      exact linkSafe.answer (h.of_eq (by simp) (by simp)) _ _ _ _
  | clear tag selector =>
    simp only [Machine.frameBody, requestClear]
    split
    · exact h.answer _ _ _ _
    · exact linkSafe.answer (h.of_eq (by simp) (by simp)) _ _ _ _
  | panelStart tag d0 ox oy =>
    simp only [Machine.frameBody, requestPanelStart]
    split
    · exact (h.of_port (.startPanel s _ _ _)).answer _ _ _ _
    · exact h.answer _ _ _ _
  | tableOpen tag table =>
    simp only [Machine.frameBody, openTable]
    split
    · exact h.answer _ _ _ _
    · exact linkSafe.answer (h.of_eq rfl rfl) _ _ _ _
  | tableWrite tag table row fields =>
    simp only [Machine.frameBody, writeTable]
    repeat' split
    all_goals exact h.of_kept ⟨rfl, rfl⟩
  | tableRead tag table bank row extra =>
    simp only [Machine.frameBody, readTable]
    repeat' split
    all_goals exact h.answer _ _ _ _
  | logRead tag first count =>
    simp only [Machine.frameBody, requestLogRead]
    repeat' split
    all_goals exact h.of_kept ⟨rfl, rfl⟩
  | nodeAccess tag address op register value =>
    simp only [Machine.frameBody, requestNodeAccess]
    repeat' split
    · exact h.answer _ _ _ _
    · exact h.answer _ _ _ _
    · exact h.answer _ _ _ _
    · exact h.of_eq (by simp) (by simp)
  | echo tag payload =>
    simp only [Machine.frameBody, requestEcho]
    split <;> exact h.answer _ _ _ _
  | statusRequest tag => exact h.of_kept ⟨rfl, rfl⟩
  | _ => exact h

theorem linkSafe.endTransaction (h : linkSafe s) (tx : Transaction) (tags : TagSet) (payload : List Byte) :
    linkSafe (endTransaction tx tags payload s) := by
  have hidle : linkSafe (s.setSbm { s.sbm with bus := .idle }) := h.of_eq rfl rfl
  simp only [Machine.endTransaction]
  refine linkSafe.of_eq ?_ (arbitrate_ulp _) (arbitrate_rpu _)
  split
  · exact hidle.of_port (.endSlot _ _ _ _ _ _ _ _ _)
  · exact hidle.of_kept ⟨rfl, rfl⟩

theorem linkSafe.eventEffect (h : linkSafe s) (c : Instr) : linkSafe (eventEffect c s) := by
  cases c with
  | huntDwellExpiry => exact h.huntDwellEnds
  | linkTimeout => exact h.linkExpiry
  | relockTimeout => exact h.relockExpiry
  | statusDeadline => exact h.statusExpiry
  | uplinkFrameEnd => exact h.frameEnd
  | syncReplyEnd => exact h.syncReplyDone
  | responseComplete chars =>
    obtain he | ⟨tx, deadline, r, -, -, he⟩ := receiveResponse_cases chars s
    · exact (congrArg linkSafe he).mpr h
    · exact (congrArg linkSafe he).mpr (h.endTransaction _ _ _)
  | responseTimeout =>
    obtain he | ⟨tx, deadline, -, -, he⟩ := responseExpiry_cases s
    · exact (congrArg linkSafe he).mpr h
    · exact (congrArg linkSafe he).mpr (h.endTransaction _ _ _)
  | offTimeExpiry unit => exact h.of_port (.offTimeEnds s unit)
  | primeTimeout => exact h.of_port (.primeExpiry s)
  | dryTimeout => exact h.of_port (.dryExpiry s)
  | refreshDeadline => exact h.of_port (.refreshExpiry s)
  | strokeTimeout plate => exact h.of_port (.strokeExpiry s plate)
  | _ => exact h.of_eq (by simp [Machine.eventEffect]) (by simp [Machine.eventEffect])

end

/-- The link port stays consistent under everything a step is made of. -/
theorem linkSafe_kept : KeptByStep linkSafe where
  reset := by simp [linkSafe, State.reset, resetUlp, resetRpu]
  own _ _ _ _ h := h.of_eq rfl rfl
  serve _ h := h.serveUplink
  hunt c _ hlink h := h.huntCharacter hlink c
  gather _ _ hlink h := h.gathering hlink _
  accept _ _ h := h.acceptFrame
  discard _ _ h := h.discardFrame
  overflow s h := h.of_port (.latchOverflow s)
  frame i _ hlink _ h := h.frameBody i hlink
  event c _ h := h.eventEffect c

/-- Settles O57: the link state with its timers, by the parts of the step. -/
theorem linkStaysConsistent : Obligations.LinkStaysConsistent := by
  unfold Obligations.LinkStaysConsistent
  intro s t h he
  exact linkSafe_kept.step h he

end Sys2Proof.Safety

namespace Sys2Proof.Safety

open Sys2Proof.Machine

/-! SUPPORT. Every step keeps the queues in their capacities (R145, R147, R177, R180, R186). -/

/-! ### Posts and records -/

theorem postEntry_nodup {es : List EventEntry} (h : (es.map (fun e => (e.kind, e.source))).Nodup) (now : HeadTime)
    (k : EventKind) (c : EventSource) (v : Int) :
    ((postEntry now k c v es).map (fun e => (e.kind, e.source))).Nodup := by
  rw [postEntry_keys]
  split
  · exact h
  · next hnew => exact h.append (List.nodup_singleton _) (by simpa using hnew)

theorem postEntry_counts {es : List EventEntry} (h : ∀ e ∈ es, 1 ≤ e.count ∧ e.count ≤ 255) (now : HeadTime)
    (k : EventKind) (c : EventSource) (v : Int) : ∀ e ∈ postEntry now k c v es, 1 ≤ e.count ∧ e.count ≤ 255 := by
  induction es with
  | nil => simp [postEntry]
  | cons x xs ih =>
    have hx := h x List.mem_cons_self
    have hxs : ∀ e ∈ xs, 1 ≤ e.count ∧ e.count ≤ 255 := fun e he => h e (List.mem_cons_of_mem _ he)
    unfold postEntry
    split
    · refine List.forall_mem_cons.mpr ⟨?_, hxs⟩
      simp only
      omega
    · exact List.forall_mem_cons.mpr ⟨hx, ih hxs⟩

theorem placeRecord_nodup {q : List TelemetryRecord} (h : (q.map (fun r => r.slot)).Nodup) (r : TelemetryRecord) :
    ((placeRecord r q).map (fun r => r.slot)).Nodup := by
  obtain ⟨hnew, he⟩ | ⟨front, back, old, rfl, -, hold, he⟩ := placeRecord_spec r q
  · rw [he, List.map_append]
    refine h.append (List.nodup_singleton _) ?_
    simpa using hnew
  · rw [he]
    simpa [hold] using h

/-- An event queue has one entry for each kind and source, each with a count of 1 to 255. -/
def EventsFormed (es : List EventEntry) : Prop :=
  (es.map (fun e => (e.kind, e.source))).Nodup ∧ ∀ e ∈ es, 1 ≤ e.count ∧ e.count ≤ 255

theorem EventsFormed.posts {a b : List EventEntry} (h : EventsFormed a) (hp : PostsOnly a b) : EventsFormed b := by
  induction hp with
  | refl => exact h
  | tail _ hstep ih =>
    obtain ⟨now, k, c, v, rfl⟩ := hstep
    exact ⟨postEntry_nodup ih.1 now k c v, postEntry_counts ih.2 now k c v⟩

theorem nodup_of_placesOnly {a b : List TelemetryRecord} (h : (a.map (fun r => r.slot)).Nodup) (hp : PlacesOnly a b) :
    (b.map (fun r => r.slot)).Nodup := by
  induction hp with
  | refl => exact h
  | tail _ hstep ih =>
    obtain ⟨r, rfl⟩ := hstep
    exact placeRecord_nodup ih r

/-! ### The queues of a state -/

/-- `queuesSafe` with its conditions named. -/
structure QueuesFormed (s : State) : Prop where
  events : EventsFormed s.rpu.events
  records : (s.ulp.telemetry.map (fun r => r.slot)).Nodup
  places : occupiedPlaces s ≤ answerPlaces
  served : ∀ a, busAccess s.sbm.bus = some a → s.sbm.access = some a
  slots : s.sbm.slots.length = (countedRows s.tst.active.poll).length

theorem queuesSafe_iff {s : State} : queuesSafe s ↔ QueuesFormed s := by
  constructor
  · rintro ⟨h1, h2, h3, h4, h5, h6⟩
    exact ⟨⟨h1, h2⟩, h3, h4, h5, h6⟩
  · rintro ⟨⟨h1, h2⟩, h3, h4, h5, h6⟩
    exact ⟨h1, h2, h3, h4, h5, h6⟩

/-- The bus master keeps the access and the number of its slots, and serves no access but the outstanding one or the one
it served. -/
structure BusKept (s t : State) : Prop where
  access : t.sbm.access = s.sbm.access
  served : ∀ a, busAccess t.sbm.bus = some a → busAccess s.sbm.bus = some a ∨ s.sbm.access = some a
  slots : t.sbm.slots.length = s.sbm.slots.length
  poll : t.tst.active.poll = s.tst.active.poll

namespace BusKept

theorem of_eq {s t : State} (hsbm : t.sbm = s.sbm) (htst : t.tst.active.poll = s.tst.active.poll) : BusKept s t := by
  refine ⟨?_, ?_, ?_, htst⟩ <;> rw [hsbm]
  exact fun a ha => .inl ha

theorem trans {s t u : State} (h : BusKept s t) (k : BusKept t u) : BusKept s u where
  access := k.access.trans h.access
  served a ha := (k.served a ha).elim (h.served a) fun hacc => .inr (h.access ▸ hacc)
  slots := k.slots.trans h.slots
  poll := k.poll.trans h.poll

/-- The same as `trans`, the last part first. -/
theorem after {s t u : State} (k : BusKept t u) (h : BusKept s t) : BusKept s u := trans h k

theorem post (k : EventKind) (c : EventSource) (v : Int) (s : State) : BusKept s (post k c v s) := of_eq rfl rfl

theorem onSlot (num : Nat) (f : Slot → Slot) (s : State) : BusKept s (onSlot num f s) :=
  ⟨rfl, fun _ ha => .inl ha, by simp [Machine.onSlot], rfl⟩

theorem freed (s : State) : BusKept s (s.setSbm { s.sbm with bus := .idle }) :=
  ⟨rfl, fun a ha => by simp [busAccess] at ha, rfl, rfl⟩

/-- The arbiter grants the bus to the outstanding access or to a slot. -/
theorem arbitrate (s : State) : BusKept s (arbitrate s) := by
  unfold Machine.arbitrate
  split
  · next tx _ hg =>
    refine ⟨rfl, fun a ha => .inr ?_, rfl, rfl⟩
    have hserved : servedAccess tx = some a := ha
    unfold granted at hg
    simp only at hg
    split at hg
    · next b hb =>
      cases hg
      cases hserved
      exact hb
    · split at hg
      · cases hg
      · obtain ⟨row, -, rfl⟩ := Option.map_eq_some_iff.mp hg
        cases hserved
  · exact of_eq rfl rfl

theorem slotDueReached (num : Nat) (s : State) : BusKept s (slotDueReached num s) := by
  unfold Machine.slotDueReached
  repeat' split
  · exact of_eq rfl rfl
  · exact arbitrate s
  · exact of_eq rfl rfl

theorem releasePair (s : State) : BusKept s (releasePair s) := by
  unfold Machine.releasePair
  split
  · next tx hbus =>
    refine ⟨rfl, fun a ha => .inl ?_, rfl, rfl⟩
    rw [hbus]
    exact ha
  all_goals exact of_eq rfl rfl

theorem quietExpiry (s : State) : BusKept s (quietExpiry s) := by
  unfold Machine.quietExpiry
  split
  · split
    · exact (freed s).trans (arbitrate _)
    · exact of_eq rfl rfl
  all_goals exact of_eq rfl rfl

theorem slotGood (num address : Nat) (s : State) : BusKept s (slotGood num address s) := by
  simp only [Machine.slotGood]
  split
  · exact (post _ _ _ _).after (onSlot _ _ s)
  · exact onSlot _ _ s

theorem slotBad (num : Nat) (role : Role) (tags : TagSet) (s : State) : BusKept s (slotBad num role tags s) := by
  simp only [Machine.slotBad]
  split
  · exact of_eq rfl rfl
  split
  · exact (of_eq (lostNotice_sbm role _) (by rw [lostNotice_tst])).after ((post _ _ _ _).after (onSlot _ _ s))
  · exact onSlot _ _ s

theorem setDue (num : Nat) (s : State) : BusKept s (setDue num s) := by
  unfold Machine.setDue
  split
  · exact (of_eq (latchOverrun_sbm _ _) (by rw [latchOverrun_tst])).after (onSlot _ _ s)
  · exact of_eq rfl rfl

theorem endLiveSlot (num address : Nat) (role : Role) (tags : TagSet) (payload : List Byte) (s : State) :
    BusKept s (endLiveSlot num address role tags payload s) := by
  simp only [Machine.endLiveSlot]
  split
  · have hserved := (slotGood num address s).trans (setDue num _)
    split <;> exact hserved.trans (of_eq (by simp) (by simp))
  · exact (slotBad _ _ _ s).trans (setDue num _)

theorem endSlot (num address : Nat) (role : Role) (relayBad noRelay orphan : Bool) (tags : TagSet)
    (payload : List Byte) (s : State) : BusKept s (endSlot num address role relayBad noRelay orphan tags payload s) := by
  unfold Machine.endSlot
  refine trans ?_ (of_eq (relay_sbm _ _ _ _ _ _ _) (by rw [relay_tst]))
  split
  · split <;> exact of_eq (by simp) (by simp)
  · exact endLiveSlot _ _ _ _ _ s

end BusKept

section
variable {s t : State}

theorem queuesSafe.of_kept (h : queuesSafe s) (hport : PortKept s t) (hbus : BusKept s t) : queuesSafe t := by
  have hf := queuesSafe_iff.mp h
  exact queuesSafe_iff.mpr
    { events := hf.events.posts hport.events
      records := nodup_of_placesOnly hf.records hport.telemetry
      places := by
        have hp := hf.places
        simp only [occupiedPlaces] at hp ⊢
        rw [hport.answers, hbus.access]
        exact hp
      served := fun a ha => hbus.access.trans ((hbus.served a ha).elim (hf.served a) id)
      slots := by rw [hbus.slots, hbus.poll, hf.slots] }

theorem queuesSafe.post (h : queuesSafe s) (k : EventKind) (c : EventSource) (v : Int) : queuesSafe (post k c v s) :=
  h.of_kept (.post s k c v) (.post k c v s)

/-- Nothing but the port's latches and posts, with the bus master and the Poll Table the same. -/
theorem queuesSafe.of_port (h : queuesSafe s) (hport : PortKept s t) (hsbm : t.sbm = s.sbm)
    (htst : t.tst.active.poll = s.tst.active.poll) : queuesSafe t := h.of_kept hport (.of_eq hsbm htst)

theorem queuesSafe.of_bus (h : queuesSafe s) (hulp : t.ulp = s.ulp) (hrpu : t.rpu = s.rpu) (hbus : BusKept s t) :
    queuesSafe t := h.of_kept (.of_eq hulp hrpu) hbus

/-- The queues and the bus master the same, or fewer entries in front. -/
theorem queuesSafe.of_queues (h : queuesSafe s) (hevents : t.rpu.events.Sublist s.rpu.events)
    (hrecords : t.ulp.telemetry.Sublist s.ulp.telemetry) (hanswers : t.ulp.answers.Sublist s.ulp.answers)
    (hsbm : t.sbm = s.sbm) (htst : t.tst.active.poll = s.tst.active.poll) : queuesSafe t := by
  have hf := queuesSafe_iff.mp h
  exact queuesSafe_iff.mpr
    { events := ⟨hf.events.1.sublist (hevents.map _), fun e he => hf.events.2 e (hevents.subset he)⟩
      records := hf.records.sublist (hrecords.map _)
      places := by
        have hp := hf.places
        have hle := hanswers.length_le
        simp only [occupiedPlaces, hsbm] at hp ⊢
        omega
      served := by rw [hsbm]; exact hf.served
      slots := by rw [hsbm, htst, hf.slots] }

theorem queuesSafe.of_eq (h : queuesSafe s) (hevents : t.rpu.events = s.rpu.events)
    (hrecords : t.ulp.telemetry = s.ulp.telemetry) (hanswers : t.ulp.answers = s.ulp.answers) (hsbm : t.sbm = s.sbm)
    (htst : t.tst.active.poll = s.tst.active.poll) : queuesSafe t :=
  h.of_queues (hevents ▸ .refl _) (hrecords ▸ .refl _) (hanswers ▸ .refl _) hsbm htst

/-! ### Answers -/

/-- An answer takes one free place. -/
theorem queuesSafe.answer (h : queuesSafe s) (hfree : occupiedPlaces s < answerPlaces) (kind : DownlinkKind) (tag : Byte)
    (r : ResultCode) (p : List Byte) : queuesSafe (answer kind tag r p s) := by
  have hf := queuesSafe_iff.mp h
  refine queuesSafe_iff.mpr { hf with places := ?_ }
  simp only [occupiedPlaces, answerPlaces, Machine.answer, pushAnswer, State.setUlp_ulp, State.setUlp_sbm,
    List.length_append, List.length_singleton] at hfree ⊢
  omega

theorem occupiedPlaces_congr (hanswers : t.ulp.answers = s.ulp.answers) (hsbm : t.sbm.access = s.sbm.access) :
    occupiedPlaces t = occupiedPlaces s := by
  simp only [occupiedPlaces, hanswers, hsbm]

/-- The answer to the outstanding access takes the place that the access held (R146, R177). -/
theorem queuesSafe.endAccess (h : queuesSafe s) {a : Access} (ha : s.sbm.access = some a) (hidle : s.sbm.bus = .idle)
    (tags : TagSet) (payload : List Byte) : queuesSafe (endAccess a tags payload s) := by
  have hf := queuesSafe_iff.mp h
  refine queuesSafe_iff.mpr { hf with places := ?_, served := fun b hb => ?_ }
  · have hp := hf.places
    simp only [occupiedPlaces, ha, Machine.endAccess, pushAnswer, State.setUlp_ulp, State.setSbm_ulp, State.setUlp_sbm,
      State.setSbm_sbm, List.length_append, List.length_singleton, boolNat, Option.isSome] at hp ⊢
    simpa using hp
  · have hbus : busAccess s.sbm.bus = some b := hb
    simp [hidle, busAccess] at hbus

/-- A new access takes one free place, whether or not the bus is granted to it (R145, R177). -/
theorem queuesSafe.accessTaken (h : queuesSafe s) (hfree : occupiedPlaces s < answerPlaces) (hnone : s.sbm.access = none)
    (a : Access) : queuesSafe (arbitrate (s.setSbm { s.sbm with access := some a })) := by
  have hf := queuesSafe_iff.mp h
  refine queuesSafe.of_bus (queuesSafe_iff.mpr ?_) (arbitrate_ulp _) (arbitrate_rpu _) (.arbitrate _)
  refine { hf with places := ?_, served := fun b hb => ?_ }
  · simp only [occupiedPlaces, hnone, State.setSbm_ulp, State.setSbm_sbm, boolNat, Option.isSome] at hfree ⊢
    simpa using hfree
  · have hserved := hf.served b hb
    rw [hnone] at hserved
    cases hserved

theorem queuesSafe.serveUplink (h : queuesSafe s) : queuesSafe (serveUplink s) := by
  have htake : ∀ x, firstSource s = some x → queuesSafe (takeSource x s) := by
    intro x hx
    unfold firstSource at hx
    repeat' split at hx
    all_goals cases hx
    · exact h.of_eq rfl rfl rfl rfl rfl
    · next he => exact h.of_queues (he ▸ List.sublist_cons_self _ _) (.refl _) (.refl _) rfl rfl
    · next he => exact h.of_queues (.refl _) (.refl _) (he ▸ List.sublist_cons_self _ _) rfl rfl
    · exact h.of_eq rfl rfl rfl rfl rfl
    · exact h.of_eq rfl rfl rfl rfl rfl
    · next he => exact h.of_queues (.refl _) (he ▸ List.sublist_cons_self _ _) (.refl _) rfl rfl
  unfold Machine.serveUplink
  split
  · split
    · exact h
    · next x hx => exact (htake x hx).of_eq rfl rfl rfl rfl rfl
  · exact h

/-! ### Frames and events -/

theorem freshSlots_length (now : HeadTime) (t : PollTable) : (freshSlots now t).length = (countedRows t).length := by
  simp [freshSlots]

theorem busAccess_orphanBus (b : BusState) : busAccess (orphanBus b) = busAccess b := by
  have horphaned : ∀ tx, servedAccess (orphaned tx) = servedAccess tx := by
    intro tx
    unfold orphaned
    split
    · next h => simp [servedAccess, h]
    · rfl
  cases b with
  | request tx => exact horphaned tx
  | response tx deadline => exact horphaned tx
  | idle | quiet => rfl

/-- An activation of the Poll Table makes one slot for each counted row of the new table (R147). -/
theorem queuesSafe.activate (h : queuesSafe s) (id : TableId) :
    queuesSafe (activationEffects id (s.setTst { s.tst with active := copyTable id s.tst.load s.tst.active })) := by
  cases id with
  | poll =>
    have hf := queuesSafe_iff.mp h
    have hfresh : ∀ tst : Tst, queuesSafe ((s.setTst tst).setSbm
        { s.sbm with bus := orphanBus s.sbm.bus, slots := freshSlots s.headTime tst.active.poll }) := by
      intro tst
      refine queuesSafe_iff.mpr { events := hf.events, records := hf.records, places := hf.places, served := ?_, slots := ?_ }
      · intro a ha
        have hbus : busAccess (orphanBus s.sbm.bus) = some a := ha
        rw [busAccess_orphanBus] at hbus
        exact hf.served a hbus
      · exact freshSlots_length _ _
    refine queuesSafe.of_bus ?_ (arbitrate_ulp _) (arbitrate_rpu _) (.arbitrate _)
    exact (hfresh { s.tst with active := copyTable .poll s.tst.load s.tst.active }).of_eq (by simp) (by simp) (by simp)
      (by simp) (by simp)
  | drum | slurry | mounting | plan | steering | link =>
    exact h.of_eq (by simp [Machine.activationEffects]) (by simp [Machine.activationEffects])
      (by simp [Machine.activationEffects]) (by simp [Machine.activationEffects]) (by simp [copyTable])

theorem pollActivated_access (s : State) : (pollActivated s).sbm.access = s.sbm.access := by
  unfold pollActivated
  rw [(BusKept.arbitrate _).access, absentNotices_sbm, State.setSbm_sbm]

theorem activationEffects_access (id : TableId) (s : State) : (activationEffects id s).sbm.access = s.sbm.access := by
  cases id with
  | poll => exact pollActivated_access s
  | drum | slurry | mounting | plan | steering | link => simp [activationEffects]

theorem occupiedPlaces_activate (id : TableId) :
    occupiedPlaces (activationEffects id (s.setTst { s.tst with active := copyTable id s.tst.load s.tst.active }))
      = occupiedPlaces s :=
  occupiedPlaces_congr (by rw [activationEffects_ulp, State.setTst_ulp]) (by rw [activationEffects_access, State.setTst_sbm])

theorem queuesSafe.deliverControl (h : queuesSafe s) (hlink : s.ulp.link ≠ .hunt) (f : ControlFields) :
    queuesSafe (deliverControl f s) := by
  rw [deliverControl_eq f s hlink]
  have hcontrol : queuesSafe (controlLink s) := by
    unfold Machine.controlLink
    split
    · refine queuesSafe.post ?_ _ _ _
      exact h.of_eq rfl rfl rfl rfl rfl
    · exact h.of_eq rfl rfl rfl rfl rfl
  have hfields := hcontrol.of_port (.fieldsTaken _ f) rfl rfl
  have hdepth := hfields.of_port (.takeDepth _ f.depth.toNat) (by simp) (by simp)
  exact (hdepth.of_port (.evaluate _) (by simp) (by simp)).of_eq (by simp) (by simp) (by simp) (by simp) (by simp)

theorem queuesSafe_headReset (tag : Byte) (s : State) : queuesSafe (requestHeadReset tag s) := by
  refine queuesSafe_iff.mpr ?_
  constructor
  · simp [requestHeadReset, headResetRpu, EventsFormed]
  · simp [requestHeadReset, headResetUlp, Machine.answer, pushAnswer]
  · simp [requestHeadReset, headResetUlp, headResetSbm, Machine.answer, pushAnswer, occupiedPlaces, answerPlaces, boolNat]
  · simp [requestHeadReset, headResetSbm, busAccess]
  · simp [requestHeadReset, headResetSbm, freshSlots_length]

theorem queuesSafe.frameBody (h : queuesSafe s) {i : Instr} (hlink : s.ulp.link ≠ .hunt)
    (hfree : answeredKind i = true → occupiedPlaces s < answerPlaces) : queuesSafe (frameBody i s) := by
  cases i with
  | control tag f => exact h.deliverControl hlink f
  | headReset tag => exact queuesSafe_headReset tag s
  | tableActivate tag table =>
    obtain ⟨r, p, he⟩ | ⟨id, -, -, he⟩ := activateTable_cases tag table s
    · rw [Machine.frameBody, he]
      exact h.answer (hfree rfl) _ _ _ _
    · rw [Machine.frameBody, he]
      exact (h.activate id).answer (by rw [occupiedPlaces_activate]; exact hfree rfl) _ _ _ _
  | clear tag selector =>
    simp only [Machine.frameBody, requestClear]
    split
    · exact h.answer (hfree rfl) _ _ _ _
    · refine queuesSafe.answer (h.of_eq (by simp) (by simp) (by simp) (by simp) (by simp)) ?_ _ _ _ _
      rw [occupiedPlaces_congr (s := s) (by simp) (by simp)]
      exact hfree rfl
  | panelStart tag d0 ox oy =>
    simp only [Machine.frameBody, requestPanelStart]
    split
    · have hstart := PortKept.startPanel s d0.toNat ox.toInt oy.toInt
      refine queuesSafe.answer (h.of_port hstart (by simp) (by simp)) ?_ _ _ _ _
      rw [occupiedPlaces_congr (s := s) hstart.answers (by simp)]
      exact hfree rfl
    · exact h.answer (hfree rfl) _ _ _ _
  | tableOpen tag table =>
    simp only [Machine.frameBody, openTable]
    split
    · exact h.answer (hfree rfl) _ _ _ _
    · exact queuesSafe.answer (h.of_eq rfl rfl rfl rfl rfl) (hfree rfl) _ _ _ _
  | tableWrite tag table row fields =>
    simp only [Machine.frameBody, writeTable]
    repeat' split
    · exact h.answer (hfree rfl) _ _ _ _
    · exact h.answer (hfree rfl) _ _ _ _
    · exact h.answer (hfree rfl) _ _ _ _
    · exact queuesSafe.answer (h.of_eq rfl rfl rfl rfl rfl) (hfree rfl) _ _ _ _
  | tableRead tag table bank row extra =>
    simp only [Machine.frameBody, readTable]
    repeat' split
    all_goals exact h.answer (hfree rfl) _ _ _ _
  | logRead tag first count =>
    simp only [Machine.frameBody, requestLogRead]
    repeat' split
    · exact h.answer (hfree rfl) _ _ _ _
    · exact h.answer (hfree rfl) _ _ _ _
    · exact h.answer (hfree rfl) _ _ _ _
    · exact queuesSafe.answer (h.of_eq rfl rfl rfl rfl rfl) (hfree rfl) _ _ _ _
  | nodeAccess tag address op register value =>
    simp only [Machine.frameBody, requestNodeAccess]
    repeat' split
    · exact h.answer (hfree rfl) _ _ _ _
    · exact h.answer (hfree rfl) _ _ _ _
    · exact h.answer (hfree rfl) _ _ _ _
    · next hnone => exact h.accessTaken (hfree rfl) (by simpa using hnone) _
  | echo tag payload =>
    simp only [Machine.frameBody, requestEcho]
    split <;> exact h.answer (hfree rfl) _ _ _ _
  | statusRequest tag => exact h.of_eq rfl rfl rfl rfl rfl
  | _ => exact h

theorem queuesSafe.endTransaction (h : queuesSafe s) {tx : Transaction} {deadline : HeadTime}
    (hbus : s.sbm.bus = .response tx deadline) (tags : TagSet) (payload : List Byte) :
    queuesSafe (endTransaction tx tags payload s) := by
  have hidle : queuesSafe (s.setSbm { s.sbm with bus := .idle }) := h.of_bus rfl rfl (.freed s)
  simp only [Machine.endTransaction]
  refine queuesSafe.of_bus ?_ (arbitrate_ulp _) (arbitrate_rpu _) (.arbitrate _)
  split
  · exact hidle.of_kept (.endSlot _ _ _ _ _ _ _ _ _) (.endSlot _ _ _ _ _ _ _ _ _)
  · next a ha =>
    have hserved : busAccess s.sbm.bus = some a := by simp [hbus, busAccess, servedAccess, ha]
    have haccess : s.sbm.access = some a := (queuesSafe_iff.mp h).served a hserved
    exact hidle.endAccess haccess rfl _ _

theorem queuesSafe.eventEffect (h : queuesSafe s) (c : Instr) : queuesSafe (eventEffect c s) := by
  cases c with
  | responseComplete chars =>
    obtain he | ⟨tx, deadline, r, hbus, -, he⟩ := receiveResponse_cases chars s
    · exact (congrArg queuesSafe he).mpr h
    · exact (congrArg queuesSafe he).mpr (h.endTransaction hbus _ _)
  | responseTimeout =>
    obtain he | ⟨tx, deadline, hbus, -, he⟩ := responseExpiry_cases s
    · exact (congrArg queuesSafe he).mpr h
    · exact (congrArg queuesSafe he).mpr (h.endTransaction hbus _ _)
  | slotDue slot => exact h.of_bus (by simp [Machine.eventEffect]) (by simp [Machine.eventEffect]) (.slotDueReached slot s)
  | pairRelease => exact h.of_bus (by simp [Machine.eventEffect]) (by simp [Machine.eventEffect]) (.releasePair s)
  | quietEnd => exact h.of_bus (by simp [Machine.eventEffect]) (by simp [Machine.eventEffect]) (.quietExpiry s)
  | offTimeExpiry unit =>
    refine h.of_port (.offTimeEnds s unit) ?_ ?_
    all_goals cases unit <;> simp [Machine.eventEffect, offTimeEnds]
  | primeTimeout => exact h.of_port (.primeExpiry s) (by simp [Machine.eventEffect]) (by simp [Machine.eventEffect])
  | dryTimeout => exact h.of_port (.dryExpiry s) (by simp [Machine.eventEffect]) (by simp [Machine.eventEffect])
  | refreshDeadline => exact h.of_port (.refreshExpiry s) (by simp [Machine.eventEffect]) (by simp [Machine.eventEffect])
  | strokeTimeout plate =>
    exact h.of_port (.strokeExpiry s plate) (by simp [Machine.eventEffect]) (by simp [Machine.eventEffect])
  | linkTimeout =>
    simp only [Machine.eventEffect, linkExpiry]
    split
    · have hloss : ∀ u : Ulp, u.telemetry = s.ulp.telemetry → u.answers = s.ulp.answers →
          queuesSafe (Machine.post .linkLoss .link s.ulp.rate.val (s.setUlp u)) := fun u hrecords hanswers =>
        queuesSafe.post (h.of_eq (t := s.setUlp u) rfl hrecords hanswers rfl rfl) _ _ _
      exact (hloss _ rfl rfl).of_eq (by simp [linkNotices]) (by simp [linkNotices]) (by simp [linkNotices])
        (by simp [linkNotices]) (by simp [linkNotices])
    · exact h
  | relockTimeout =>
    simp only [Machine.eventEffect, relockExpiry]
    split
    · exact h.of_eq (by simp [linkNotices]) (by simp [linkNotices]) (by simp [linkNotices]) (by simp [linkNotices])
        (by simp [linkNotices])
    · exact h
  | huntDwellExpiry =>
    simp only [Machine.eventEffect, huntDwellEnds]
    split
    · exact h.of_eq rfl rfl rfl rfl rfl
    · exact h
  | statusDeadline =>
    simp only [Machine.eventEffect, statusExpiry]
    split
    · exact h.of_eq rfl rfl rfl rfl rfl
    · exact h
  | uplinkFrameEnd =>
    simp only [Machine.eventEffect, frameEnd]
    repeat' split
    all_goals exact h.of_eq rfl rfl rfl rfl rfl
  | syncReplyEnd =>
    simp only [Machine.eventEffect, syncReplyDone]
    split
    · exact h.of_eq rfl rfl rfl rfl rfl
    · exact h
  | dwellEnd plate =>
    exact h.of_eq (by simp [Machine.eventEffect]) (by simp [Machine.eventEffect]) (by simp [Machine.eventEffect])
      (by simp [Machine.eventEffect]) (by simp [Machine.eventEffect])
  | _ => exact h

theorem queuesSafe.huntCharacter (h : queuesSafe s) (c : LinkChar) : queuesSafe (huntCharacter c s) := by
  unfold Machine.huntCharacter
  split
  · split
    · exact h.of_eq (by simp [lockLink, startStatusDeadline]) (by simp [lockLink, restartLinkDeadline])
        (by simp [lockLink, restartLinkDeadline]) (by simp) (by simp)
    · exact h.of_eq rfl rfl rfl rfl rfl
  · exact h.of_eq rfl rfl rfl rfl rfl

theorem queuesSafe.discardFrame (h : queuesSafe s) : queuesSafe (discardFrame s) := by
  simp only [Machine.discardFrame]
  split
  · refine queuesSafe.post ?_ _ _ _
    exact h.of_eq rfl rfl rfl rfl rfl
  · exact h.of_eq rfl rfl rfl rfl rfl

end

/-- The queues keep their capacities under everything a step is made of. -/
theorem queuesSafe_kept : KeptByStep queuesSafe where
  reset := by
    refine queuesSafe_iff.mpr ⟨⟨List.nodup_nil, by simp [State.reset, resetRpu]⟩, List.nodup_nil, Nat.zero_le _, ?_, rfl⟩
    simp [State.reset, resetSbm, busAccess]
  own _ _ _ _ h := h.of_eq rfl rfl rfl rfl rfl
  serve _ h := h.serveUplink
  hunt c _ _ h := h.huntCharacter c
  gather _ _ _ h := h.of_eq rfl rfl rfl rfl rfl
  accept _ _ h := h.of_eq rfl rfl rfl rfl rfl
  discard _ _ h := h.discardFrame
  overflow _ h := h.of_eq rfl rfl rfl rfl rfl
  frame _ _ hlink hfree h := h.frameBody hlink hfree
  event c _ h := h.eventEffect c

/-- Settles O58: the events, the records, the answer places, the access and the slots, by the parts of the step. -/
theorem queuesKeepCapacity : Obligations.QueuesKeepCapacity := by
  unfold Obligations.QueuesKeepCapacity
  intro s t h he
  exact queuesSafe_kept.step h he

/-- Settles O53: each invariant in the reset state, as the base of its own proof. -/
theorem resetIsSafe : Obligations.ResetIsSafe := by
  unfold Obligations.ResetIsSafe
  obtain ⟨hgovernors, hspeeds⟩ := drumsSafe_iff.mp drumsSafe_reset
  exact ⟨platesSafe_reset, hgovernors, hspeeds, banksInRange_kept.reset, activePasses_reset, slurrySafe_kept.reset,
    linkSafe_kept.reset, queuesSafe_kept.reset, logSafe_kept.reset.2⟩

end Sys2Proof.Safety

namespace Sys2Proof.Machine

/-! SUPPORT. The step: the front command, the timers that are due, and what every command keeps (log 1, 2, 3). -/

/-- Settles O1, by the step's own equation. -/
theorem stepRunsFrontCommand : Obligations.StepRunsFrontCommand := by
  unfold Obligations.StepRunsFrontCommand
  intro c rest s
  rfl

/-! ### Every command -/

theorem commandEffect_pending (c : Instr) (s : State) : (commandEffect c s).pending = s.pending := by
  unfold commandEffect
  split
  · simp
  · simp
  · simp
  · split
    · simp
    · cases c with
      | offTimeExpiry unit => cases unit <;> simp [eventEffect, offTimeEnds]
      | _ => simp [eventEffect]

theorem commandEffect_headTime (c : Instr) (s : State) : (commandEffect c s).headTime = s.headTime := by
  unfold commandEffect
  split
  · simp
  · simp
  · simp
  · split
    · simp
    · cases c with
      | offTimeExpiry unit => cases unit <;> simp [eventEffect, offTimeEnds]
      | _ => simp [eventEffect]

/-- Settles O3: a hardware reset keeps the queue, and any other command has its effect and asks the arbiter, none of
which takes time. -/
theorem everyCommandAnswersNextState : Obligations.EveryCommandAnswersNextState := by
  unfold Obligations.EveryCommandAnswersNextState
  intro c s
  by_cases hc : c = .hardwareReset
  · subst hc
    exact ⟨_, rfl, rfl, fun h => absurd rfl h⟩
  · exact ⟨_, exec_eq hc s, by rw [serveUplink_pending, commandEffect_pending],
      fun _ => by rw [serveUplink_headTime, commandEffect_headTime]⟩

/-! ### The order of the expiries -/

theorem insertRanked_perm (x : Nat × Instr) (q : List (Nat × Instr)) : (insertRanked x q).Perm (x :: q) := by
  induction q with
  | nil => rfl
  | cons y rest ih =>
    unfold insertRanked
    split
    · rfl
    · exact (ih.cons y).trans (List.Perm.swap x y rest)

theorem sortRanked_perm (q : List (Nat × Instr)) : (sortRanked q).Perm q := by
  induction q with
  | nil => rfl
  | cons x rest ih => exact (insertRanked_perm x _).trans (ih.cons x)

theorem dueRanked_snd (seq code : Nat) (ts : List (Bool × Instr)) :
    (dueRanked seq code ts).map (fun x => x.2) = (ts.filter (fun x => x.1)).map (fun x => x.2) := by
  induction ts generalizing code with
  | nil => rfl
  | cons t rest ih =>
    obtain ⟨due, i⟩ := t
    cases due <;> simp [dueRanked, ih]

/-- The expiries that join the queue are the timers that are due (log 3). -/
theorem dueExpiries_perm (s : State) :
    (dueExpiries s).Perm (((timers s).filter (fun x => x.1)).map (fun x => x.2)) := by
  rw [← dueRanked_snd s.freeSeq 0]
  exact (sortRanked_perm _).map _

theorem idle_of_none_due {s : State} (h : dueExpiries s = []) : idle s = { s with headTime := s.headTime + 1 } := by
  unfold idle
  split
  · rfl
  · next hne => exact absurd h hne

theorem idle_of_due {s : State} (h : dueExpiries s ≠ []) :
    idle s = { s with pending := dueExpiries s, freeSeq := s.freeSeq + 1 } := by
  unfold idle
  split
  · next hnil => exact absurd hnil h
  · rfl

/-! ### A timer that is not due -/

section
variable {s : State}

theorem huntDwellEnds_of_not_due
    (h : (decide (s.ulp.link = .hunt) && expired s.ulp.dwellDeadline s.headTime) = false) : huntDwellEnds s = s :=
  if_neg (by simpa using h)

theorem linkExpiry_of_not_due
    (h : (decide (s.ulp.link = .online) && expired s.ulp.linkDeadline s.headTime) = false) : linkExpiry s = s :=
  if_neg (by simpa using h)

theorem relockExpiry_of_not_due
    (h : (decide (s.ulp.link = .loss) && expired s.ulp.relockDeadline s.headTime) = false) : relockExpiry s = s :=
  if_neg (by simpa using h)

theorem statusExpiry_of_not_due
    (h : (decide (s.ulp.link ≠ .hunt) && expired s.rpu.statusDeadline s.headTime) = false) : statusExpiry s = s :=
  if_neg (by simpa using h)

/-- With the bus in use, or nothing to grant, the arbiter does nothing. -/
theorem arbitrate_of_not_waits (h : slotWaits s = false) : arbitrate s = s := by
  unfold arbitrate
  split
  · next hbus hgranted => simp [slotWaits, hbus, hgranted] at h
  · rfl

theorem slotDueReached_of_not_waits (h : slotWaits s = false) (num : Nat) : slotDueReached num s = s := by
  unfold slotDueReached
  repeat' split
  · rfl
  · exact arbitrate_of_not_waits h
  · rfl

theorem responseExpiry_of_not_due (h : responseDue s = false) : responseExpiry s = s := by
  obtain he | ⟨tx, deadline, hbus, hreached, -⟩ := responseExpiry_cases s
  · exact he
  · simp [responseDue, hbus, hreached] at h

theorem quietExpiry_of_not_due (h : quietDue s = false) : quietExpiry s = s := by
  unfold quietExpiry
  split
  next deadline hbus =>
    have hr : reached deadline s.headTime = false := by simpa [quietDue, hbus] using h
    simp [hr]
  all_goals rfl

theorem drumOffTimeExpiry_of_not_due {d : Drum} (h : offTimeDue (.drum d) s = false) : drumOffTimeExpiry d s = s := by
  simp only [drumOffTimeExpiry]
  split
  next deadline hg =>
    have hr : reached deadline s.headTime = false := by simpa [offTimeDue, hg, phaseExpired] using h
    simp [hr]
  all_goals rfl

theorem pumpOffTimeExpiry_of_not_due (h : offTimeDue .pump s = false) : pumpOffTimeExpiry s = s := by
  simp only [pumpOffTimeExpiry]
  split
  next deadline hp =>
    have hr : reached deadline s.headTime = false := by simpa [offTimeDue, hp, phaseExpired] using h
    simp [hr]
  all_goals rfl

theorem primeExpiry_of_not_due (h : (decide (s.sru.pump = .prime) && expired s.sru.primeDeadline s.headTime) = false) :
    primeExpiry s = s := if_neg (by simpa using h)

theorem dryExpiry_of_not_due (h : (decide (s.sru.pump = .run) && expired s.sru.dryDeadline s.headTime) = false) :
    dryExpiry s = s := if_neg (by simpa using h)

theorem refreshExpiry_of_not_due (h : (s.sru.held && expired s.sru.refreshDeadline s.headTime) = false) :
    refreshExpiry s = s := if_neg (by simpa using h)

theorem strokeExpiry_of_not_due {id : PlateId} (h : strokeDue id s = false) : strokeExpiry id s = s :=
  if_neg (by simpa [strokeDue] using h)

theorem dwellExpiry_of_not_due {id : PlateId} (h : dwellDue id s = false) : dwellExpiry id s = s := by
  simp only [dwellExpiry]
  split
  · rfl
  · next b hb =>
    have hr : reached b.deadline s.headTime = false := by simpa [dwellDue, hb, expired] using h
    simp [hr]

/-- The commands of the timers that are not due ask the arbiter only (log 4). -/
theorem exec_of_not_due (s : State) : ∀ x ∈ timers s, x.1 = false → exec x.2 s = .next (serveUplink s) := by
  have hevent : ∀ e : Instr, exec e s = .next (serveUplink (eventEffect e s)) → eventEffect e s = s →
      exec e s = .next (serveUplink s) := fun e he hsame => by rw [he, hsame]
  simp only [timers, List.forall_mem_append, List.forall_mem_map, List.forall_mem_cons]
  refine ⟨⟨⟨?_, ?_, ?_, ?_, ?_, ?_, ?_, ?_, ?_, ?_, ?_, ?_, ?_, by simp⟩, ?_⟩, ?_⟩
  · exact fun h => hevent _ rfl (huntDwellEnds_of_not_due h)
  · exact fun h => hevent _ rfl (linkExpiry_of_not_due h)
  · exact fun h => hevent _ rfl (relockExpiry_of_not_due h)
  · exact fun h => hevent _ rfl (statusExpiry_of_not_due h)
  · exact fun h => hevent _ rfl (slotDueReached_of_not_waits h _)
  · exact fun h => hevent _ rfl (responseExpiry_of_not_due h)
  · exact fun h => hevent _ rfl (quietExpiry_of_not_due h)
  · exact fun h => hevent _ rfl (drumOffTimeExpiry_of_not_due h)
  · exact fun h => hevent _ rfl (drumOffTimeExpiry_of_not_due h)
  · exact fun h => hevent _ rfl (pumpOffTimeExpiry_of_not_due h)
  · exact fun h => hevent _ rfl (primeExpiry_of_not_due h)
  · exact fun h => hevent _ rfl (dryExpiry_of_not_due h)
  · exact fun h => hevent _ rfl (refreshExpiry_of_not_due h)
  · exact ⟨fun h => hevent _ rfl (strokeExpiry_of_not_due h), fun h => hevent _ rfl (strokeExpiry_of_not_due h),
      fun h => hevent _ rfl (strokeExpiry_of_not_due h), fun h => hevent _ rfl (strokeExpiry_of_not_due h), by simp⟩
  · exact ⟨fun h => hevent _ rfl (dwellExpiry_of_not_due h), fun h => hevent _ rfl (dwellExpiry_of_not_due h),
      fun h => hevent _ rfl (dwellExpiry_of_not_due h), fun h => hevent _ rfl (dwellExpiry_of_not_due h), by simp⟩

end

/-- Settles O2: the ranks only order the timers that are due, and an expiry tests that its own is due. -/
theorem emptyQueueStepFiresDueTimers : Obligations.EmptyQueueStepFiresDueTimers := by
  unfold Obligations.EmptyQueueStepFiresDueTimers
  refine ⟨fun s hempty => ?_, fun c s hc => exec_of_not_due s _ hc rfl⟩
  have hstep : step s = .next (idle s) := by
    unfold step
    rw [hempty]
  refine ⟨fun hnone => ?_, fun ⟨x, hx, hdue⟩ => ?_⟩
  · have hfilter : (timers s).filter (fun x => x.1) = [] := by
      simpa [List.filter_eq_nil_iff] using hnone
    have hnil : dueExpiries s = [] := List.perm_nil.mp (by simpa [hfilter] using dueExpiries_perm s)
    rw [hstep, idle_of_none_due hnil]
  · have hmem : x.2 ∈ dueExpiries s :=
      (dueExpiries_perm s).mem_iff.mpr (List.mem_map_of_mem (List.mem_filter.mpr ⟨hx, hdue⟩))
    have hne : dueExpiries s ≠ [] := List.ne_nil_of_mem hmem
    exact ⟨_, dueExpiries_perm s, hne, by rw [hstep, idle_of_due hne]⟩

/-! ### The hardware reset and the STATUS slot -/

theorem rowFields_default_curve (row : Nat) (h1 : 1 ≤ row) (h16 : row ≤ 16) :
    rowFields defaultTables .drum row = (if row = 1 ∨ row = 9 then [0, 0] else [400, 1000])
      ∧ rowFields defaultTables .poll row = [(row : Int), 7, 1000, 0] := by
  interval_cases row <;> exact ⟨rfl, rfl⟩

theorem rowFields_default_plan (row : Nat) (h1 : 1 ≤ row) (h32 : row ≤ 32) :
    rowFields defaultTables .plan row = [0, 0, 0, 0] := by
  interval_cases row <;> rfl

theorem rowFields_default_steering (row : Nat) (h1 : 1 ≤ row) (h24 : row ≤ 24) :
    rowFields defaultTables .steering row = [1, 0] := by
  interval_cases row <;> rfl

/-- Settles O4: the reset state is a constant, and each of its values is computed. -/
theorem hardwareResetGivesResetValues : Obligations.HardwareResetGivesResetValues := by
  unfold Obligations.HardwareResetGivesResetValues
  intro s
  refine ⟨_, rfl, rfl, rfl, rfl, rfl, ?_, rfl, rfl, rfl, ?_, rfl, rfl, rfl, rfl, rfl, rowFields_default_curve, rfl, rfl, rfl,
    rfl, rfl, rowFields_default_plan, rfl, rowFields_default_steering, rfl, rfl, rfl, rfl, rfl, rfl⟩
  · intro d
    cases d <;> rfl
  · intro p
    cases p <;> rfl

/-- Settles O11: the expiry of a reached deadline and the request, each by the port it leaves. -/
theorem statusIsMadePending : Obligations.StatusIsMadePending := by
  unfold Obligations.StatusIsMadePending
  intro s hlocked
  refine ⟨fun deadline hd hr => ?_, fun tag => ?_⟩
  · have hdue : s.ulp.link ≠ .hunt ∧ expired s.rpu.statusDeadline s.headTime := ⟨hlocked, by rw [hd]; exact hr⟩
    have hexpiry : statusExpiry s = startStatusDeadline (s.setUlp { s.ulp with statusPending := true }) := if_pos hdue
    have hexec : exec .statusDeadline s = .next (serveUplink (statusExpiry s)) := rfl
    rw [hexec, hexpiry]
    rfl
  · have hexec : exec (.statusRequest tag) s = .next (serveUplink (takeFrame (.statusRequest tag) s)) := rfl
    rw [hexec, takeFrame_eq _ s hlocked]
    rfl

end Sys2Proof.Machine

namespace Sys2Proof.Machine

open Sys2Proof.Safety

/-! SUPPORT. What leaves LOCKOUT, the Drift Log and the table banks as they are (R1, R85, R151 to R157). -/

section
variable {s : State}

/-! ### LOCKOUT -/

theorem enableTaken_lockout {g : Governor} (h : g.state = .lockout) (onl alive en : Bool) :
    (enableTaken onl alive en g).state = .lockout := by
  cases en <;> simp [enableTaken, h]

theorem directionTaken_state (v : Byte) (g : Governor) : (directionTaken v g).state = g.state := by
  unfold directionTaken
  repeat' split
  all_goals rfl

theorem governorTaken_lockout {d : Drum} (h : (s.governor d).state = .lockout) (direction enable : Byte) :
    (governorTaken s d direction enable).state = .lockout :=
  enableTaken_lockout (by rw [directionTaken_state, h]) _ _ _

theorem drumSample_lockout {d : Drum} (h : (s.governor d).state = .lockout) (e : Drum) (x : DrumSample) :
    ((drumSample e x s).governor d).state = .lockout := by
  by_cases hd : d = e
  · subst hd
    rw [drumSample_eq d x s _ rfl]
    simp [driving, h]
  · rw [drumSample_eq e x s _ rfl]
    split
    · split
      · simp [tripDrum, hd, h]
      · simp [hd, h]
    · simp [hd, h]

theorem governorLost_lockout {g : Governor} (h : g.state = .lockout) : (governorLost g).state = .lockout := by
  simp [governorLost, h]

/-- The ends of transactions leave a drum in LOCKOUT. -/
theorem drumLockout_keptByBus (d : Drum) : KeptByBus fun s => (s.governor d).state = .lockout where
  same s t he h := by
    obtain ⟨-, -, hl, hr, -⟩ := he
    have hg : t.governor d = s.governor d := by cases d <;> assumption
    rw [hg, h]
  sample role payload s h := by
    cases role with
    | drumL | drumR => exact drumSample_lockout h _ _
    | inclA | inclB | slurry | flap | aux => simpa [deliverSample] using h
  notice role payload s h := by
    have hdrum : ∀ e x, ((drumSampleWithNotice e x s).governor d).state = .lockout := by
      intro e x
      unfold drumSampleWithNotice
      split
      · next hnofb =>
        have hne : d ≠ e := by
          rintro rfl
          simp [h] at hnofb
        simp [onGovernor, hne, h]
      · exact drumSample_lockout h _ _
    cases role with
    | drumL | drumR => exact hdrum _ _
    | inclA | inclB | slurry | flap | aux => simpa [deliverWithNotice, deliverSample] using h
  lost role s h := by
    cases role with
    | drumL | drumR =>
      simp only [lostNotice, onGovernor_governor]
      split
      · exact governorLost_lockout h
      · exact h
    | inclA | inclB | slurry | flap | aux => simpa [lostNotice] using h

theorem drumOffTimeExpiry_lockout {d : Drum} (h : (s.governor d).state = .lockout) (e : Drum) :
    ((drumOffTimeExpiry e s).governor d).state = .lockout := by
  simp only [drumOffTimeExpiry]
  split
  next deadline htrip =>
    have hne : d ≠ e := by
      rintro rfl
      simp [h] at htrip
    repeat' split
    all_goals simp [hne, h]
  all_goals exact h

theorem governorLinkNotice_lockout {g : Governor} (h : g.state = .lockout) : (governorLinkNotice g).state = .lockout := by
  simp [governorLinkNotice, h]

/-- A frame other than CLEAR leaves a drum in LOCKOUT. -/
theorem frameBody_drumLockout {i : Instr} (hi : headFrame i = true) (hclear : ∀ tag selector, i ≠ .clear tag selector)
    {d : Drum} (hlink : s.ulp.link ≠ .hunt) (h : (s.governor d).state = .lockout) :
    ((frameBody i s).governor d).state = .lockout := by
  cases i with
  | control tag f =>
    have hcontrol : ((controlLink s).governor d).state = .lockout := by rw [controlLink_governor, h]
    have hfields : ((fieldsTaken f (controlLink s)).governor d).state = .lockout := by
      cases d <;> exact governorTaken_lockout hcontrol _ _
    rw [frameBody, deliverControl_eq f s hlink]
    simpa using hfields
  | tableActivate tag table =>
    obtain ⟨r, p, he⟩ | ⟨id, -, -, he⟩ := activateTable_cases tag table s
    · rw [frameBody, he]
      simpa using h
    · rw [frameBody, he, answer_governor]
      cases id with
      | drum => simpa [activationEffects, governorActivated] using h
      | poll =>
        exact KeptByHead.pollActivated (P := fun s => (s.governor d).state = .lockout)
          (drumLockout_keptByBus d).same (drumLockout_keptByBus d).lost h
      | slurry | mounting | plan | steering | link => simpa [activationEffects] using h
  | headReset tag => simp [frameBody, requestHeadReset, governorHeadReset, h]
  | clear tag selector => exact absurd rfl (hclear tag selector)
  | tableOpen | tableWrite | panelStart => simpa [frameBody] using h
  | _ => simp [headFrame] at hi

theorem eventEffect_drumLockout {c : Instr} (hc : headEvent c = true) {d : Drum} (h : (s.governor d).state = .lockout) :
    ((eventEffect c s).governor d).state = .lockout := by
  cases c with
  | linkTimeout =>
    simp only [eventEffect, linkExpiry]
    split
    · simpa [linkNotices] using governorLinkNotice_lockout h
    · exact h
  | relockTimeout =>
    simp only [eventEffect, relockExpiry]
    split
    · simpa [linkNotices] using governorLinkNotice_lockout h
    · exact h
  | offTimeExpiry unit =>
    cases unit with
    | drum e => exact drumOffTimeExpiry_lockout h e
    | pump => simpa [eventEffect, offTimeEnds] using h
  | primeTimeout | dryTimeout | refreshDeadline | strokeTimeout | dwellEnd => simpa [eventEffect] using h
  | _ => simp [headEvent] at hc

/-! ### The pump in LOCKOUT -/

theorem reformDuty_pump (t : SlurryTable) (u : Sru) : (reformDuty t u).pump = u.pump := by
  unfold reformDuty
  split <;> rfl

theorem pumpTaken_lockout (h : s.sru.pump = .lockout) (setpoint density : Nat) (enable : Byte) :
    (pumpTaken s setpoint density enable).pump = .lockout := by
  have hfields : (densityTaken density (setpointTaken s.tst.active.slurry setpoint s.sru)).pump = .lockout := by
    simp [densityTaken, setpointTaken, reformDuty_pump, h]
  unfold pumpTaken pumpEnableTaken
  cases hen : (enable == 1) <;> simp [hfields]

theorem slurrySample_lockout (h : s.sru.pump = .lockout) (x : SlurrySample) :
    (slurrySample x s).sru.pump = .lockout := by
  unfold slurrySample
  rw [accountUpdate_sru]
  simp [pumpStage, h]

/-- The ends of transactions leave a pump in LOCKOUT. -/
theorem pumpLockout_keptByBus : KeptByBus fun s => s.sru.pump = .lockout where
  same s t he h := by
    obtain ⟨-, -, -, -, -, hsru, -⟩ := he
    rw [hsru, h]
  sample role payload s h := by
    cases role with
    | slurry => exact slurrySample_lockout h _
    | drumL | drumR | inclA | inclB | flap | aux => simpa [deliverSample] using h
  notice role payload s h := by
    cases role with
    | slurry => exact slurrySample_lockout h _
    | drumL | drumR | inclA | inclB | flap | aux => simpa [deliverWithNotice, deliverSample] using h
  lost role s h := by
    cases role with
    | slurry => simpa [lostNotice, slurryLost] using h
    | drumL | drumR | inclA | inclB | flap | aux => simpa [lostNotice] using h

theorem takeDepth_pump (v : Nat) (s : State) : (takeDepth v s).sru.pump = s.sru.pump := by
  rw [(takeDepth_keeps v s).1]

/-- A frame other than CLEAR leaves a pump in LOCKOUT. -/
theorem frameBody_pumpLockout {i : Instr} (hi : headFrame i = true) (hclear : ∀ tag selector, i ≠ .clear tag selector)
    (hlink : s.ulp.link ≠ .hunt) (h : s.sru.pump = .lockout) : (frameBody i s).sru.pump = .lockout := by
  cases i with
  | control tag f =>
    have hcontrol : (controlLink s).sru.pump = .lockout := by rw [controlLink_sru, h]
    have hfields : (fieldsTaken f (controlLink s)).sru.pump = .lockout := pumpTaken_lockout hcontrol _ _ _
    rw [frameBody, deliverControl_eq f s hlink, decisionPass_sru, evaluate_sru, takeDepth_pump, hfields]
  | tableActivate tag table =>
    obtain ⟨r, p, he⟩ | ⟨id, -, -, he⟩ := activateTable_cases tag table s
    · rw [frameBody, he]
      simpa using h
    · rw [frameBody, he, answer_sru]
      cases id with
      | slurry => simp [activationEffects, slurryActivated, reformDuty_pump, h]
      | poll =>
        exact KeptByHead.pollActivated (P := fun s => s.sru.pump = .lockout)
          pumpLockout_keptByBus.same pumpLockout_keptByBus.lost h
      | drum | mounting | plan | steering | link => simpa [activationEffects] using h
  | headReset tag => simp [frameBody, requestHeadReset, headResetSru, h]
  | clear tag selector => exact absurd rfl (hclear tag selector)
  | tableOpen | tableWrite | panelStart => simpa [frameBody] using h
  | _ => simp [headFrame] at hi

theorem eventEffect_pumpLockout {c : Instr} (hc : headEvent c = true) (h : s.sru.pump = .lockout) :
    (eventEffect c s).sru.pump = .lockout := by
  cases c with
  | linkTimeout =>
    simp only [eventEffect, linkExpiry]
    split
    · simpa [linkNotices] using h
    · exact h
  | relockTimeout =>
    simp only [eventEffect, relockExpiry]
    split
    · simpa [linkNotices] using h
    · exact h
  | offTimeExpiry unit =>
    cases unit with
    | drum e => simpa [eventEffect, offTimeEnds] using h
    | pump => simp [eventEffect, offTimeEnds, pumpOffTimeExpiry, h]
  | primeTimeout => simp [eventEffect, primeExpiry, h]
  | dryTimeout => simp [eventEffect, dryExpiry, h]
  | refreshDeadline =>
    simp only [eventEffect, refreshExpiry]
    split
    · exact h
    · exact h
  | strokeTimeout | dwellEnd => simpa [eventEffect] using h
  | _ => simp [headEvent] at hc

/-! ### The Drift Log -/

/-- The ends of transactions leave the log as it is. -/
theorem log_keptByBus (l : List StationRecord) : KeptByBus fun s => s.vtr.log = l where
  same s t he h := by rw [he.1, h]
  sample role payload s h := by
    cases role with
    | inclA | inclB => simpa [deliverSample, inclSample, accumulated_log] using h
    | drumL | drumR | slurry | flap | aux => simpa [deliverSample] using h
  notice role payload s h := by
    cases role with
    | inclA | inclB => simpa [deliverWithNotice, deliverSample, inclSample, accumulated_log] using h
    | drumL | drumR | slurry | flap | aux => simpa [deliverWithNotice, deliverSample] using h
  lost role s h := by simpa using h

theorem loseDepth_log (v : Vtr) : (loseDepth v).log = v.log := by
  unfold loseDepth
  rfl

theorem closeTest_log (d : Nat) (s : State) :
    (closeTest d s).vtr.log = s.vtr.log ∨ ∃ r, (closeTest d s).vtr.log = s.vtr.log ++ [r] := by
  unfold closeTest
  split
  · exact .inl rfl
  split
  · split
    · exact .inr ⟨_, by simp [closeStation]; rfl⟩
    · unfold refuseClose
      split <;> exact .inl rfl
  · exact .inl rfl

theorem advanceFace_log (d : Nat) (s : State) :
    (advanceFace d s).vtr.log = s.vtr.log ∨ ∃ r, (advanceFace d s).vtr.log = s.vtr.log ++ [r] := by
  unfold advanceFace
  obtain h | ⟨r, h⟩ := closeTest_log d (cutTerm (d - s.vtr.dFace) (s.setVtr { s.vtr with dFace := d }))
  · exact .inl (by rw [h]; simp)
  · exact .inr ⟨r, by rw [h]; simp⟩

/-- A depth appends at most one record. -/
theorem takeDepth_log (v : Nat) (s : State) :
    (takeDepth v s).vtr.log = s.vtr.log ∨ ∃ r, (takeDepth v s).vtr.log = s.vtr.log ++ [r] := by
  unfold takeDepth
  split
  · simp only [acceptDepth]
    split
    · exact .inl rfl
    split
    · exact advanceFace_log v _
    · exact .inl rfl
  · exact .inl rfl

theorem frameBody_log {i : Instr} (hi : headFrame i = true) (hstart : ∀ tag d0 ox oy, i ≠ .panelStart tag d0 ox oy)
    (hcontrol : ∀ tag f, i ≠ .control tag f) (s : State) : (frameBody i s).vtr.log = s.vtr.log := by
  cases i with
  | control tag f => exact absurd rfl (hcontrol tag f)
  | panelStart tag d0 ox oy => exact absurd rfl (hstart tag d0 ox oy)
  | headReset tag => simp [frameBody, requestHeadReset, headResetVtr, clearOpen, loseDepth_log]
  | tableOpen | tableWrite | tableActivate | clear => simp [frameBody]
  | _ => simp [headFrame] at hi

theorem eventEffect_log {c : Instr} (hc : headEvent c = true) (s : State) : (eventEffect c s).vtr.log = s.vtr.log := by
  cases c with
  | linkTimeout =>
    simp only [eventEffect, linkExpiry]
    split
    · simp [linkNotices, loseDepth_log]
    · rfl
  | relockTimeout =>
    simp only [eventEffect, relockExpiry]
    split
    · simp [linkNotices, loseDepth_log]
    · rfl
  | offTimeExpiry unit => cases unit <;> simp [eventEffect, offTimeEnds]
  | primeTimeout | dryTimeout | refreshDeadline | strokeTimeout | dwellEnd => simp [eventEffect]
  | _ => simp [headEvent] at hc

theorem commandEffect_control_log (tag : Byte) (f : ControlFields) (s : State) :
    (commandEffect (.control tag f) s).vtr.log = s.vtr.log
      ∨ ∃ r, (commandEffect (.control tag f) s).vtr.log = s.vtr.log ++ [r] := by
  have he : commandEffect (.control tag f) s = takeFrame (.control tag f) s := rfl
  rw [he, takeFrame]
  split
  · exact .inl rfl
  · next hlink =>
    have hc : executeFrame (.control tag f) (acceptFrame s) = deliverControl f (acceptFrame s) := rfl
    rw [hc, deliverControl_eq f (acceptFrame s) hlink]
    have hlog : (fieldsTaken f (controlLink (acceptFrame s))).vtr.log = s.vtr.log :=
      congrArg Vtr.log (controlLink_vtr (acceptFrame s))
    simpa [hlog] using takeDepth_log f.depth.toNat (fieldsTaken f (controlLink (acceptFrame s)))

/-! ### The table banks -/

theorem frameBody_tst_active {i : Instr} (hactivate : ∀ tag table, i ≠ .tableActivate tag table) (s : State) :
    (frameBody i s).tst.active = s.tst.active := by
  cases i with
  | tableActivate tag table => exact absurd rfl (hactivate tag table)
  | tableOpen tag table =>
    simp only [frameBody, openTable]
    split <;> rfl
  | tableWrite tag table row fields =>
    simp only [frameBody, writeTable]
    repeat' split
    all_goals rfl
  | nodeAccess tag address op register value =>
    simp only [frameBody, requestNodeAccess]
    repeat' split
    all_goals simp
  | _ => simp [frameBody, requestStatus]

theorem frameBody_tst_load {i : Instr} (hopen : ∀ tag table, i ≠ .tableOpen tag table)
    (hwrite : ∀ tag table row fields, i ≠ .tableWrite tag table row fields) (s : State) :
    (frameBody i s).tst.load = s.tst.load := by
  cases i with
  | tableOpen tag table => exact absurd rfl (hopen tag table)
  | tableWrite tag table row fields => exact absurd rfl (hwrite tag table row fields)
  | tableActivate tag table =>
    obtain ⟨r, p, he⟩ | ⟨id, -, -, he⟩ := activateTable_cases tag table s
    · rw [frameBody, he, answer_tst]
    · rw [frameBody, he, answer_tst, activationEffects_tst, State.setTst_tst]
  | _ => simp [frameBody, requestStatus]

theorem eventEffect_tst (c : Instr) (s : State) : (eventEffect c s).tst = s.tst := by
  cases c with
  | offTimeExpiry unit => cases unit <;> simp [eventEffect, offTimeEnds]
  | _ => simp [eventEffect]

theorem active_keptByBus (b : Tables) : KeptByBus fun s => s.tst.active = b where
  same s t he h := by
    obtain ⟨-, -, -, -, -, -, -, htst, -⟩ := he
    rw [htst, h]
  sample role payload s h := by simpa using h
  notice role payload s h := by simpa using h
  lost role s h := by simpa using h

theorem load_keptByBus (b : Tables) : KeptByBus fun s => s.tst.load = b where
  same s t he h := by
    obtain ⟨-, -, -, -, -, -, -, htst, -⟩ := he
    rw [htst, h]
  sample role payload s h := by simpa using h
  notice role payload s h := by simpa using h
  lost role s h := by simpa using h

end

end Sys2Proof.Machine

namespace Sys2Proof.Machine

/-- Settles O60: each guarded value is a property of the head, kept by every frame but its own and by every event. -/
theorem guardedStateKeepsItsCommands : Obligations.GuardedStateKeepsItsCommands := by
  unfold Obligations.GuardedStateKeepsItsCommands
  intro c s t he hreset hchar
  rw [exec_eq hreset] at he
  cases he
  rw [serveUplink_sru, serveUplink_vtr, serveUplink_tst]
  have hlog : (∀ tag d0 ox oy, c ≠ .panelStart tag d0 ox oy) → (∀ tag f, c ≠ .control tag f) →
      (commandEffect c s).vtr.log = s.vtr.log := fun hstart hcontrol =>
    (log_keptByBus s.vtr.log).commandEffect hchar (fun hi u _ hu => (frameBody_log hi hstart hcontrol u).trans hu)
      (fun hi u hu => (eventEffect_log hi u).trans hu) rfl
  refine ⟨fun hclear => ⟨fun d hd => ?_, fun hp => ?_⟩, hlog, fun hstart => ?_, fun hactivate => ?_,
    fun hopen hwrite => ?_⟩
  · rw [serveUplink_governor]
    exact (drumLockout_keptByBus d).commandEffect hchar (fun hi u hlink hu => frameBody_drumLockout hi hclear hlink hu)
      (fun hi u hu => eventEffect_drumLockout hi hu) hd
  · exact pumpLockout_keptByBus.commandEffect hchar (fun hi u hlink hu => frameBody_pumpLockout hi hclear hlink hu)
      (fun hi u hu => eventEffect_pumpLockout hi hu) hp
  · by_cases hcontrol : ∃ tag f, c = .control tag f
    · obtain ⟨tag, f, rfl⟩ := hcontrol
      exact commandEffect_control_log tag f s
    · exact .inl (hlog hstart fun tag f hc => hcontrol ⟨tag, f, hc⟩)
  · exact (active_keptByBus s.tst.active).commandEffect hchar (fun _ u _ hu => (frameBody_tst_active hactivate u).trans hu)
      (fun _ u hu => (congrArg Tst.active (eventEffect_tst c u)).trans hu) rfl
  · exact (load_keptByBus s.tst.load).commandEffect hchar (fun _ u _ hu => (frameBody_tst_load hopen hwrite u).trans hu)
      (fun _ u hu => (congrArg Tst.load (eventEffect_tst c u)).trans hu) rfl

end Sys2Proof.Machine

namespace Sys2Proof.Machine

open Sys2Proof.Safety

/-! SUPPORT. The requests that start something: PANEL START (R25, R26) and NODE ACCESS (R145). -/

/-! ### PANEL START -/

theorem panelFieldsOk_iff (d0 : Nat) (ox oy : Int) :
    panelFieldsOk d0 ox oy = true ↔ d0 ≤ 250000 ∧ -10000 ≤ ox ∧ ox ≤ 10000 ∧ -10000 ≤ oy ∧ oy ≤ 10000 := by
  exact decide_eq_true_iff

theorem roundDiv_mul_self (a : Int) {d : Nat} (h : 0 < d) : roundDiv (a * d) d = a := by
  refine RoundedQuotient.unique h (roundDiv_rounded (a * d) d h) ?_
  have hd : (0 : Int) < d := by exact_mod_cast h
  constructor <;> intro _ <;> constructor <;> linarith

section
variable (m : MountingParams) (d0 : Nat) (ox oy : Int) (v : Vtr)

/-- A known depth gives ADVANCING at or below the face less the backoff, and ABOVE_FACE above it (R3, R6). -/
theorem depthState_eq (m : MountingParams) (dFace d : Nat) :
    depthState m dFace d = if (dFace : Int) - m.backoff ≤ d then .advancing else .aboveFace := by
  have hface : atFace m dFace d = true ↔ (dFace : Int) - m.backoff ≤ d := by
    simp only [atFace, decide_eq_true_eq]
  simp only [depthState, hface]

/-- With clear accumulators the vote is the newest record's value, which station 0 has as 0. -/
theorem vote_panelStarted (axis : Axis) : vote m (panelStarted m d0 ox oy v) axis = 0 := by
  cases axis <;> rfl

theorem openMean_panelStarted (axis : Axis) : openMean m (panelStarted m d0 ox oy v) axis = 0 :=
  vote_panelStarted m d0 ox oy v axis

/-- The face stands at station 0, so the live offset is the station's own. -/
theorem faceOffset_panelStarted (onY : Bool) :
    faceOffset m (panelStarted m d0 ox oy v) onY = if onY then oy else ox := by
  have hstation : ∀ a : Int, offsetOf (segmentSum (a * 200000) 0 0 d0 d0 0) = a := by
    intro a
    have := roundDiv_mul_self a (d := 200000) (by decide)
    simpa [offsetOf, segmentSum] using this
  cases onY
  · exact hstation ox
  · exact hstation oy

end

theorem steeringErrors_panelStarted (t : Tables) (d0 : Nat) (ox oy : Int) (v : Vtr) :
    steeringErrors t (panelStarted t.mounting.params d0 ox oy v)
      = ⟨ox - (planTarget t.plan d0).x, oy - (planTarget t.plan d0).y, 0 - (planTarget t.plan d0).twist⟩ := by
  have hpredicted : ∀ a : Int, ∀ look : Nat, predicted a 0 look = a := by
    intro a look
    simp [predicted, roundDiv]
  simp only [steeringErrors, openMean_panelStarted, faceOffset_panelStarted, hpredicted]
  rfl

theorem exec_panelStart_of_answerable (tag : Byte) (d0 : BitVec 32) (ox oy : BitVec 16) {s : State} (h : answerable s) :
    exec (.panelStart tag d0 ox oy) s
      = .next (serveUplink (requestPanelStart tag d0.toNat ox.toInt oy.toInt { s with ulp := portAfterFrame s.ulp })) :=
  exec_request_of_answerable rfl (fun _ => rfl) h

/-- Settles O18: the fields are tested, and the panel opened is evaluated on station 0 alone. -/
theorem panelStartOpensPanel : Obligations.PanelStartOpensPanel := by
  unfold Obligations.PanelStartOpensPanel
  intro tag d0 ox oy s hs
  refine ⟨fun hbad => ?_, fun hd hx hx' hy hy' => ?_⟩
  · rw [exec_panelStart_of_answerable tag d0 ox oy hs, requestPanelStart, if_neg (by rwa [panelFieldsOk_iff]),
      answer_afterFrame]
    rfl
  · obtain ⟨opened, hopened⟩ : ∃ u : State, u = { s with
        vtr := panelStarted s.tst.active.mounting.params d0.toNat ox.toInt oy.toInt s.vtr
        rpu := { s.rpu with readout := none }
        ulp := portAfterFrame s.ulp } := ⟨_, rfl⟩
    have hstart : startPanel d0.toNat ox.toInt oy.toInt { s with ulp := portAfterFrame s.ulp } = evaluateAndHand opened := by
      rw [hopened]
      rfl
    have hmode : effectiveMode opened = effectiveMode s := by
      rw [hopened]
      rfl
    refine ⟨answer .panelStart tag .ok [] (evaluateAndHand opened), ?_, ?_, ?_, ?_, ?_⟩
    · rw [exec_panelStart_of_answerable tag d0 ox oy hs, requestPanelStart,
        if_pos ((panelFieldsOk_iff _ _ _).mpr ⟨hd, hx, hx', hy, hy'⟩), hstart]
    · rw [answer_vtr, evaluateAndHand_vtr, hopened]
      simp only [panelStarted, depthState_eq]
      rfl
    · have heval := evaluate_spl opened
      rw [← evaluateAndHand_spl, hmode] at heval
      have herrors := steeringErrors_panelStarted s.tst.active d0.toNat ox.toInt oy.toInt s.vtr
      rw [answer_spl, answer_vtr, evaluateAndHand_vtr, ← herrors]
      subst hopened
      exact heval
    · have hhanded := evaluateAndHand_handed opened
      rw [answer_spl, answer_pps]
      subst hopened
      exact hhanded
    · rw [evaluateAndHand_eq opened, hopened]
      rfl

/-! ### NODE ACCESS -/

theorem accessOpOf_eq (op : Byte) :
    accessOpOf op = if op.toNat ≤ 1 then some (if op = 0#8 then .read else .write) else none := by
  have h0 : op = 0#8 ↔ op.toNat = 0 := ⟨fun h => by rw [h]; rfl, fun h => BitVec.eq_of_toNat_eq h⟩
  simp only [h0, accessOpOf]
  generalize op.toNat = n
  rcases n with _ | _ | n <;> simp

section
variable {address op : Byte} {s : State}

theorem requestNodeAccess_badValue (h : 1 < op.toNat ∨ address.toNat = 0 ∨ 31 < address.toNat) (tag register : Byte)
    (value : BitVec 16) : requestNodeAccess tag address op register value s = answer .nodeAccess tag .badValue [] s := by
  rw [requestNodeAccess, accessOpOf_eq]
  split
  · rfl
  · next hop =>
    have hle : op.toNat ≤ 1 := by
      by_contra hgt
      simp [hgt] at hop
    rw [if_pos (by omega)]

theorem requestNodeAccess_of_fields (hop : op.toNat ≤ 1) (h1 : 1 ≤ address.toNat) (h31 : address.toNat ≤ 31)
    (tag register : Byte) (value : BitVec 16) :
    requestNodeAccess tag address op register value s
      = if s.sbm.access.isSome then answer .nodeAccess tag .busy [] s
        else
          arbitrate
            (s.setSbm
              { s.sbm with
                access := some ⟨address.toNat, if op = 0#8 then .read else .write, register, value, tag⟩ }) := by
  rw [requestNodeAccess, accessOpOf_eq, if_pos hop]
  simp only
  rw [if_neg (by omega)]

end

/-- With an access outstanding the arbiter gives an idle bus to it (R143). -/
theorem arbitrate_of_access {s : State} {a : Access} (hidle : s.sbm.bus = .idle) (h : s.sbm.access = some a) :
    arbitrate s = s.setSbm { s.sbm with bus := .request (accessTransaction s.tst.active.poll a) } := by
  simp [arbitrate, granted, h, hidle]

theorem exec_nodeAccess_of_answerable (tag address op register : Byte) (value : BitVec 16) {s : State}
    (h : answerable s) :
    exec (.nodeAccess tag address op register value) s
      = .next
          (serveUplink
            (requestNodeAccess tag address op register value { s with ulp := portAfterFrame s.ulp })) :=
  exec_request_of_answerable rfl (fun _ => rfl) h

/-- Settles O21, by the fields, the outstanding access and the arbiter. -/
theorem nodeAccessIsAccepted : Obligations.NodeAccessIsAccepted := by
  unfold Obligations.NodeAccessIsAccepted
  intro tag address op register value s hs
  have hexec := exec_nodeAccess_of_answerable tag address op register value hs
  refine ⟨fun hbad => ?_, fun hop h1 h31 => ⟨fun hbusy => ?_, fun hfree a ha => ?_⟩⟩
  · rw [hexec, requestNodeAccess_badValue hbad, answer_afterFrame]
    rfl
  · have hsome : s.sbm.access.isSome = true := Option.isSome_iff_ne_none.mpr hbusy
    rw [hexec, requestNodeAccess_of_fields hop h1 h31, if_pos hsome, answer_afterFrame]
    rfl
  · have hnone : ¬s.sbm.access.isSome = true := by simp [hfree]
    rw [hexec, requestNodeAccess_of_fields hop h1 h31, if_neg hnone, ← ha]
    by_cases hidle : s.sbm.bus = .idle
    · rw [arbitrate_of_access (a := a) (by exact hidle) rfl, if_pos hidle, ha]
      rfl
    · rw [arbitrate_busy _ (by exact hidle), if_neg hidle]
      rfl

end Sys2Proof.Machine

namespace Sys2Proof.Machine

open Sys2Proof.Safety

/-! SUPPORT. TABLE WRITE and TABLE ACTIVATE, one equation for each of their cases, and the lowest row that fails a
cross-row check (R152 to R166). -/

/-! ### TABLE WRITE -/

theorem exec_tableWrite_of_answerable (tag table row : Byte) (fields : List Byte) {s : State} (h : answerable s) :
    exec (.tableWrite tag table row fields) s
      = .next (serveUplink (writeTable tag table row fields { s with ulp := portAfterFrame s.ulp })) :=
  exec_request_of_answerable rfl (fun _ => rfl) h

theorem exec_tableActivate_of_answerable (tag table : Byte) {s : State} (h : answerable s) :
    exec (.tableActivate tag table) s
      = .next (serveUplink (activateTable tag table { s with ulp := portAfterFrame s.ulp })) :=
  exec_request_of_answerable rfl (fun _ => rfl) h

section
variable {table row : Byte} {id : TableId} {specs : List FieldSpec} {fields : List Byte}

theorem writeTable_ok (hid : tableIdOf table = some id) (hspecs : rowSpecs id row.toNat = some specs) {vs : List Int}
    (hread : readFields specs fields = some vs) (tag : Byte) (s : State) :
    writeTable tag table row fields s
      = answer .tableWrite tag .ok [table, row] { s with tst := { s.tst with load := setRow s.tst.load id row.toNat vs } } := by
  simp only [writeTable, hid, hspecs, hread]
  rfl

theorem writeTable_badValue (hid : tableIdOf table = some id) (hspecs : rowSpecs id row.toNat = some specs)
    (hread : readFields specs fields = none) (tag : Byte) (s : State) :
    writeTable tag table row fields s = answer .tableWrite tag .badValue [] s := by
  simp only [writeTable, hid, hspecs, hread]

/-- The bytes of field values in their ranges are read back as those values. -/
theorem readFields_writeFields (hspecs : rowSpecs id row.toNat = some specs) {vs : List Int}
    (hvs : inRange specs vs = true) : readFields specs (writeFields specs vs) = some vs :=
  (readFields_eq_some_iff (rowSpecs_fits hspecs)).mpr ⟨hvs, rfl⟩

end

/-- Settles O13: the row written has the values written, and TABLE READ writes them out again. -/
theorem writtenRowIsStoredAndReadsBack : Obligations.WrittenRowIsStoredAndReadsBack := by
  unfold Obligations.WrittenRowIsStoredAndReadsBack
  rintro tag table row fields id specs vs s hs hbanks hid hspecs rfl hvs
  have hself : rowFields (setRow s.tst.load id row.toNat vs) id row.toNat = vs :=
    rowFields_setRow_self hbanks.2 hspecs hvs
  have hexec : exec (.tableWrite tag table row (writeFields specs vs)) s
      = .next
          (serveUplink
            { s with
              tst := { s.tst with load := setRow s.tst.load id row.toNat vs }
              ulp := portAnswering s.ulp 0x21#8 tag .ok [table, row] }) := by
    rw [exec_tableWrite_of_answerable tag table row _ hs, writeTable_ok hid hspecs (readFields_writeFields hspecs hvs)]
    rfl
  refine ⟨⟨setRow s.tst.load id row.toNat vs, hself, ?_, hexec⟩, ?_⟩
  · intro other r hr hne
    by_cases hother : other = id
    · subst hother
      exact rowFields_setRow_of_ne (by simp [hspecs]) hr fun he => hne ⟨rfl, he⟩
    · exact rowFields_congr (sameTable_setRow hother _ _ _) r
  · intro tag' t ht hanswerable
    have hload : t.tst.load = setRow s.tst.load id row.toNat vs := by
      rw [hexec] at ht
      cases ht
      rw [serveUplink_tst]
    rw [exec_tableRead_of_answerable tag' table 1#8 row [] hanswerable,
      readTable_ok hid hspecs (bankOf_one _), answer_afterFrame, hload, hself]
    rfl

/-! ### Requests refused -/

section
variable {table : Byte} {s : State}

theorem openTable_badTable (hid : tableIdOf table = none) (tag : Byte) :
    openTable tag table s = answer .tableOpen tag .badTable [] s := by
  simp only [openTable, hid]

theorem writeTable_badTable (hid : tableIdOf table = none) (tag row : Byte) (fields : List Byte) :
    writeTable tag table row fields s = answer .tableWrite tag .badTable [] s := by
  simp only [writeTable, hid]

theorem activateTable_badTable (hid : tableIdOf table = none) (tag : Byte) :
    activateTable tag table s = answer .tableActivate tag .badTable [] s := by
  simp only [activateTable, hid]

theorem readTable_badTable (hid : tableIdOf table = none) (tag bank row : Byte) (extra : List Byte) :
    readTable tag table bank row extra s = answer .tableRead tag .badTable [] s := by
  simp only [readTable, hid]

variable {id : TableId} (hid : tableIdOf table = some id)
include hid

theorem writeTable_badRow {row : Byte} (hspecs : rowSpecs id row.toNat = none) (tag : Byte) (fields : List Byte) :
    writeTable tag table row fields s = answer .tableWrite tag .badRow [] s := by
  simp only [writeTable, hid, hspecs]

theorem readTable_badRow {row : Byte} (hspecs : rowSpecs id row.toNat = none) (tag bank : Byte) (extra : List Byte) :
    readTable tag table bank row extra s = answer .tableRead tag .badRow [] s := by
  simp only [readTable, hid, hspecs]

theorem activateTable_invalid {failing : Nat} (hrow : failingRow s.tst.load id = some failing) (tag : Byte) :
    activateTable tag table s = answer .tableActivate tag .invalid [table, BitVec.ofNat 8 failing] s := by
  simp only [activateTable, hid, hrow]

theorem activateTable_locked (hpass : failingRow s.tst.load id = none) (hlock : lockRefuses id s = true) (tag : Byte) :
    activateTable tag table s = answer .tableActivate tag .locked [table] s := by
  simp only [activateTable, hid, hpass, hlock, if_true]

theorem activateTable_ok (hpass : failingRow s.tst.load id = none) (hlock : lockRefuses id s = false) (tag : Byte) :
    activateTable tag table s
      = answer .tableActivate tag .ok [table]
          (activationEffects id (s.setTst { s.tst with active := copyTable id s.tst.load s.tst.active })) := by
  simp only [activateTable, hid, hpass, hlock]
  rfl

end

/-! ### The lowest row that fails -/

/-- A search for the lowest number with a property found it, or found that there is none. -/
def IsLowest (o : Option Nat) (P : Nat → Prop) : Prop :=
  match o with
  | none => ∀ n, ¬P n
  | some n => P n ∧ ∀ lower, lower < n → ¬P lower

section
variable {o a b : Option Nat} {P Q : Nat → Prop}

theorem IsLowest.congr (h : IsLowest o P) (hpq : ∀ n, P n ↔ Q n) : IsLowest o Q := by
  have : P = Q := funext fun n => propext (hpq n)
  rwa [← this]

theorem IsLowest.eq_none_iff (h : IsLowest o P) : o = none ↔ ∀ n, ¬P n := by
  cases o with
  | none => exact iff_of_true rfl h
  | some n => exact iff_of_false (by simp) fun hnone => hnone n h.1

theorem IsLowest.eq_some_iff (h : IsLowest o P) (n : Nat) : o = some n ↔ P n ∧ ∀ lower, lower < n → ¬P lower := by
  cases o with
  | none => exact iff_of_false (by simp) fun hn => h n hn.1
  | some m =>
    constructor
    · rintro ⟨⟩
      exact h
    · rintro ⟨hn, hlower⟩
      rcases Nat.lt_trichotomy m n with hlt | rfl | hgt
      · exact absurd h.1 (hlower m hlt)
      · rfl
      · exact absurd hn (h.2 n hgt)

/-- The first of two searches of which the first is among lower numbers. -/
theorem IsLowest.or (ha : IsLowest a P) (hb : IsLowest b Q) (hlt : ∀ m n, P m → Q n → m < n) :
    IsLowest (a.or b) (fun n => P n ∨ Q n) := by
  cases a with
  | some m =>
    refine ⟨.inl ha.1, fun lower hl => ?_⟩
    rintro (hp | hq)
    · exact ha.2 lower hl hp
    · exact absurd (hlt m lower ha.1 hq) (by omega)
  | none =>
    cases b with
    | none => exact fun n => not_or.mpr ⟨ha n, hb n⟩
    | some n => exact ⟨.inr hb.1, fun lower hl => not_or.mpr ⟨ha lower, hb.2 lower hl⟩⟩

/-- A first item looked at before the rest: `P` may hold of the first number, and of the others as `Q` does. -/
theorem IsLowest.of_first {row : Nat} (hfirst : ¬P row) (hb : IsLowest b Q) (hrest : ∀ n, n ≠ row → (P n ↔ Q n))
    (hq : ¬Q row) : IsLowest b P :=
  hb.congr fun n => by
    by_cases hn : n = row
    · subst hn
      exact iff_of_false hq hfirst
    · exact (hrest n hn).symm

end

/-- An item from the second on, numbered from `row` for the second, stands in no order to the item before it. -/
def Unordered {α : Type} (ordered : α → α → Bool) (row : Nat) (items : List α) (n : Nat) : Prop :=
  ∃ i x y, n = row + i ∧ items[i]? = some x ∧ items[i + 1]? = some y ∧ ordered x y = false

theorem firstUnordered_isLowest {α : Type} (ordered : α → α → Bool) (row : Nat) (a : α) (rest : List α) :
    IsLowest (firstUnordered ordered row a rest) (Unordered ordered row (a :: rest)) := by
  induction rest generalizing row a with
  | nil =>
    rintro n ⟨i, x, y, -, -, hy, -⟩
    simp at hy
  | cons b rest ih =>
    have hfirst : Unordered ordered row (a :: b :: rest) row ↔ ordered a b = false := by
      constructor
      · rintro ⟨i, x, y, hi, hx, hy, ho⟩
        obtain rfl : i = 0 := by omega
        simp only [List.getElem?_cons_zero, List.getElem?_cons_succ, Option.some.injEq] at hx hy
        rwa [hx, hy]
      · exact fun ho => ⟨0, a, b, rfl, rfl, rfl, ho⟩
    unfold firstUnordered
    split
    · next ho =>
      refine (ih (row + 1) b).of_first (row := row) (by rw [hfirst, ho]; simp) ?_ ?_
      · intro n hn
        constructor
        · rintro ⟨i, x, y, rfl, hx, hy, hxy⟩
          obtain ⟨j, rfl⟩ : ∃ j, i = j + 1 := ⟨i - 1, by omega⟩
          exact ⟨j, x, y, by omega, by simpa using hx, by simpa using hy, hxy⟩
        · rintro ⟨i, x, y, rfl, hx, hy, hxy⟩
          exact ⟨i + 1, x, y, by omega, by simpa using hx, by simpa using hy, hxy⟩
      · rintro ⟨i, x, y, hi, -⟩
        omega
    · next ho =>
      refine ⟨hfirst.mpr (by simpa using ho), ?_⟩
      rintro lower hl ⟨i, x, y, hi, -⟩
      omega

/-- Items out of order among the counted rows, as the statements say it. -/
theorem unordered_take_iff {α : Type} {P : α → α → Prop} {ordered : α → α → Bool} (ho : ∀ a b, ordered a b = true ↔ P a b)
    (rows : List α) (count row n : Nat) :
    Unordered ordered (row + 1) (rows.take count) n ↔ ∃ i, n = row + i ∧ ItemFails P rows count i := by
  constructor
  · rintro ⟨i, x, y, rfl, hx, hy, hxy⟩
    rw [List.getElem?_take] at hx hy
    split at hy
    · next hi =>
      rw [if_pos (by omega)] at hx
      refine ⟨i + 1, by omega, by omega, hi, x, y, by simpa using hx, hy, ?_⟩
      rw [← ho, hxy]
      simp
    · cases hy
  · rintro ⟨i, rfl, h1, hc, x, y, hx, hy, hxy⟩
    refine ⟨i - 1, x, y, by omega, ?_, ?_, ?_⟩
    · rw [List.getElem?_take, if_pos (by omega), hx]
    · rw [List.getElem?_take, if_pos (by omega), show i - 1 + 1 = i by omega, hy]
    · rw [← ho] at hxy
      simpa using hxy

theorem getElem?_take_zero {α : Type} (rows : List α) (count : Nat) :
    (rows.take count)[0]? = if 0 < count then rows[0]? else none := List.getElem?_take

theorem curveCheck_isLowest (row : Nat) (rows : List CurvePoint) (count : Nat) :
    IsLowest (curveCheck row (rows.take count)) (fun n => ∃ i, n = row + i ∧ PointFails rows count i) := by
  have hitems := unordered_take_iff (P := fun a b : CurvePoint => a.speed < b.speed ∧ a.duty ≤ b.duty)
    (ordered := fun a b => decide (a.speed < b.speed ∧ a.duty ≤ b.duty)) (fun a b => decide_eq_true_iff) rows count row
  have hzero := getElem?_take_zero rows count
  cases htake : rows.take count with
  | nil =>
    rw [htake] at hitems hzero
    rintro n ⟨i, rfl, ⟨rfl, hc, p, hp, -⟩ | hfails⟩
    · simp [hc, hp] at hzero
    · obtain ⟨j, x, y, -, hx, -⟩ := (hitems (row + i)).mpr ⟨i, rfl, hfails⟩
      simp at hx
  | cons p rest =>
    rw [htake] at hitems hzero
    have hfirst : 0 < count ∧ rows[0]? = some p := by
      split at hzero
      · next hc => exact ⟨hc, by simpa using hzero.symm⟩
      · simp at hzero
    have hpoint : (∃ i, row = row + i ∧ PointFails rows count i) ↔ p.speed ≠ 0 := by
      constructor
      · rintro ⟨i, hi, ⟨-, -, q, hq, hspeed⟩ | ⟨h1, -⟩⟩
        · rw [hfirst.2] at hq
          cases hq
          exact hspeed
        · omega
      · exact fun hspeed => ⟨0, rfl, .inl ⟨rfl, hfirst.1, p, hfirst.2, hspeed⟩⟩
    simp only [curveCheck]
    split
    · next hspeed =>
      refine (firstUnordered_isLowest _ (row + 1) p rest).of_first (row := row) (by rw [hpoint]; simp [hspeed]) ?_ ?_
      · intro n hn
        rw [hitems]
        constructor
        · rintro ⟨i, rfl, ⟨rfl, -⟩ | hfails⟩
          · exact absurd rfl hn
          · exact ⟨i, rfl, hfails⟩
        · rintro ⟨i, rfl, hfails⟩
          exact ⟨i, rfl, .inr hfails⟩
      · rintro ⟨i, x, y, hi, -⟩
        omega
    · next hspeed =>
      refine ⟨hpoint.mpr hspeed, ?_⟩
      rintro lower hl ⟨i, rfl, -⟩
      omega

/-- The check of rows in order, with nothing to say of the first. -/
theorem firstUnordered_take_isLowest {α : Type} {P : α → α → Prop} {ordered : α → α → Bool}
    (ho : ∀ a b, ordered a b = true ↔ P a b) (rows : List α) (count row : Nat) :
    IsLowest
      (match rows.take count with
        | [] => none
        | a :: rest => firstUnordered ordered (row + 1) a rest)
      (fun n => ∃ i, n = row + i ∧ ItemFails P rows count i) := by
  have hitems := unordered_take_iff ho rows count row
  cases htake : rows.take count with
  | nil =>
    rw [htake] at hitems
    rintro n hn
    obtain ⟨j, x, y, -, hx, -⟩ := (hitems n).mpr hn
    simp at hx
  | cons a rest =>
    rw [htake] at hitems
    exact (firstUnordered_isLowest ordered (row + 1) a rest).congr hitems

theorem bandCheck_isLowest (row : Nat) (rows : List Band) (count : Nat) :
    IsLowest (bandCheck row (rows.take count)) (fun n => ∃ i, n = row + i ∧ BandFails rows count i) := by
  have h := firstUnordered_take_isLowest (P := fun a b : Band => a.edge < b.edge ∧ a.output ≤ b.output)
    (ordered := fun a b => decide (a.edge < b.edge ∧ a.output ≤ b.output)) (fun a b => decide_eq_true_iff) rows count row
  cases htake : rows.take count <;> rw [htake] at h <;> exact h

theorem planCheck_isLowest (rows : List PlanRow) (count : Nat) :
    IsLowest (planCheck (rows.take count))
      (fun n => ∃ i, n = 1 + i ∧ ItemFails (fun a c => a.depth < c.depth) rows count i) := by
  have h := firstUnordered_take_isLowest (P := fun a b : PlanRow => a.depth < b.depth)
    (ordered := fun a b => decide (a.depth < b.depth)) (fun a b => decide_eq_true_iff) rows count 1
  cases htake : rows.take count <;> rw [htake] at h <;> exact h

/-! ### The counted slots -/

theorem slotsClash_iff (e r : PollRow) :
    slotsClash e r = true ↔ e.address = r.address ∨ (r.role ≠ .aux ∧ e.role = r.role) := decide_eq_true_iff

theorem pollCheck_isLowest (row : Nat) (earlier rest : List PollRow) :
    IsLowest (pollCheck row earlier rest)
      (fun n => ∃ i r, n = row + i ∧ rest[i]? = some r ∧ ∃ e ∈ earlier ++ rest.take i, slotsClash e r = true) := by
  induction rest generalizing row earlier with
  | nil =>
    rintro n ⟨i, r, -, hr, -⟩
    simp at hr
  | cons x rest ih =>
    have hfirst : (∃ i r, row = row + i ∧ (x :: rest)[i]? = some r
        ∧ ∃ e ∈ earlier ++ (x :: rest).take i, slotsClash e r = true) ↔ earlier.any (fun e => slotsClash e x) = true := by
      rw [List.any_eq_true]
      constructor
      · rintro ⟨i, r, hi, hr, e, he, hclash⟩
        obtain rfl : i = 0 := by omega
        cases hr
        exact ⟨e, by simpa using he, hclash⟩
      · rintro ⟨e, he, hclash⟩
        exact ⟨0, x, rfl, rfl, e, by simpa using he, hclash⟩
    unfold pollCheck
    split
    · next hclash =>
      refine ⟨hfirst.mpr hclash, ?_⟩
      rintro lower hl ⟨i, r, rfl, -⟩
      omega
    · next hclash =>
      refine (ih (row + 1) (earlier ++ [x])).of_first (row := row) (by rw [hfirst]; exact hclash) ?_ ?_
      · intro n hn
        constructor
        · rintro ⟨i, r, rfl, hr, e, he, hc⟩
          obtain ⟨j, rfl⟩ : ∃ j, i = j + 1 := ⟨i - 1, by omega⟩
          exact ⟨j, r, by omega, by simpa using hr, e, by simpa using he, hc⟩
        · rintro ⟨i, r, rfl, hr, e, he, hc⟩
          exact ⟨i + 1, r, by omega, by simpa using hr, e, by simpa using he, hc⟩
      · rintro ⟨i, r, hi, -⟩
        omega

theorem pollRows_isLowest (rows : List PollRow) (count : Nat) :
    IsLowest (pollCheck 1 [] (rows.take count))
      (fun n => ∃ (i j : Nat) (r e : PollRow), n = 1 + i ∧ i < count ∧ j < i ∧ rows[i]? = some r ∧ rows[j]? = some e
        ∧ (e.address = r.address ∨ (r.role ≠ .aux ∧ e.role = r.role))) := by
  refine (pollCheck_isLowest 1 [] (rows.take count)).congr fun n => ?_
  simp only [List.nil_append, List.mem_iff_getElem?, List.getElem?_take, slotsClash_iff]
  constructor
  · rintro ⟨i, r, rfl, hr, e, ⟨j, he⟩, hclash⟩
    split at hr
    · next hi =>
      split at he
      · next hj =>
        rw [if_pos (by omega)] at he
        exact ⟨i, j, r, e, rfl, hi, hj, hr, he, hclash⟩
      · cases he
    · cases hr
  · rintro ⟨i, j, r, e, rfl, hi, hj, hr, he, hclash⟩
    exact ⟨i, r, rfl, by rw [if_pos hi, hr], e, ⟨j, by rw [if_pos hj, if_pos (by omega), he]⟩, hclash⟩

/-! ### Every table -/

/-- The counts of a bank in its ranges stay within the rows of their sections (8.6.1, 8.6.5). -/
theorem counts_le_of_bankInRange {b : Tables} (h : bankInRange b) :
    b.drum.params.nL ≤ 8 ∧ b.steering.params.nX ≤ 8 ∧ b.steering.params.nY ≤ 8 := by
  have hdrum : inRange drumParamSpecs (drumParamFields b.drum.params) = true := h .drum 0 _ rfl
  have hsteering : inRange steeringParamSpecs (steeringParamFields b.steering.params) = true := h .steering 0 _ rfl
  simp only [drumParamSpecs, drumParamFields, inRange, Bool.and_eq_true, decide_eq_true_eq] at hdrum
  simp only [steeringParamSpecs, steeringParamFields, inRange, Bool.and_eq_true, decide_eq_true_eq] at hsteering
  omega

theorem pointFails_lt {rows : List CurvePoint} {count i : Nat} (h : PointFails rows count i) : i < count := by
  obtain ⟨rfl, hc, -⟩ | ⟨-, hc, -⟩ := h
  · exact hc
  · exact hc

theorem slurryHolds_iff (t : SlurryTable) :
    slurryHolds t = true
      ↔ t.levels.up1 < t.levels.up2 ∧ t.levels.up2 < t.levels.up3 ∧ t.levels.up3 ≤ t.ground.accountMax
        ∧ t.levels.dn1 < t.levels.up1 ∧ t.levels.dn2 < t.levels.up2 ∧ t.levels.dn3 < t.levels.up3
        ∧ t.levels.dn1 < t.levels.dn2 ∧ t.levels.dn2 < t.levels.dn3 ∧ t.levels.f1 ≤ t.levels.f0
        ∧ t.levels.f2 ≤ t.levels.f1 ∧ t.levels.f3 ≤ t.levels.f2 ∧ t.levels.noReturnFactor ≤ t.levels.f0 := by
  simp only [slurryHolds, Bool.and_eq_true, decide_eq_true_eq, and_assoc]

/-- The row named is the lowest that fails a cross-row check of the table. -/
theorem failingRow_isLowest {b : Tables} (h : bankInRange b) (id : TableId) :
    IsLowest (failingRow b id) (RowFails b id) := by
  obtain ⟨hnL, hnX, hnY⟩ := counts_le_of_bankInRange h
  cases id with
  | drum =>
    refine ((curveCheck_isLowest 1 b.drum.curveL b.drum.params.nL).or
      (curveCheck_isLowest 9 b.drum.curveR b.drum.params.nR) ?_).congr fun n => exists_or.symm
    rintro m n ⟨i, rfl, hi⟩ ⟨j, rfl, -⟩
    have := pointFails_lt hi
    omega
  | poll => exact pollRows_isLowest _ _
  | plan => exact planCheck_isLowest _ _
  | steering =>
    have hxy := (bandCheck_isLowest 1 b.steering.bandsX b.steering.params.nX).or
      (bandCheck_isLowest 9 b.steering.bandsY b.steering.params.nY) (by
        rintro m n ⟨i, rfl, -, hi, -⟩ ⟨j, rfl, -⟩
        omega)
    refine (hxy.or (bandCheck_isLowest 17 b.steering.bandsT b.steering.params.nT) ?_).congr fun n => ?_
    · rintro m n (⟨i, rfl, -, hi, -⟩ | ⟨i, rfl, -, hi, -⟩) ⟨j, rfl, -⟩ <;> omega
    · simp only [RowFails, exists_or, or_assoc]
  | slurry =>
    simp only [failingRow]
    split
    · next hholds =>
      rintro n ⟨-, hfails⟩
      exact hfails ((slurryHolds_iff _).mp hholds)
    · next hfails =>
      refine ⟨⟨rfl, fun hholds => hfails ((slurryHolds_iff _).mpr hholds)⟩, ?_⟩
      rintro lower hl ⟨rfl, -⟩
      omega
  | mounting | link => exact fun n hn => hn

/-- Settles O15: each check in its order, and the search for the lowest row that fails. -/
theorem tableRequestRefused : Obligations.TableRequestRefused := by
  unfold Obligations.TableRequestRefused
  refine ⟨fun tag table bank row fields extra s hs => ⟨fun hid => ?_, fun id hid => ?_⟩, fun b id hb => ?_⟩
  · refine ⟨?_, ?_, ?_, ?_⟩
    · rw [exec_tableOpen_of_answerable tag table hs, openTable_badTable hid, answer_afterFrame]
      rfl
    · rw [exec_tableWrite_of_answerable tag table row fields hs, writeTable_badTable hid, answer_afterFrame]
      rfl
    · rw [exec_tableActivate_of_answerable tag table hs, activateTable_badTable hid, answer_afterFrame]
      rfl
    · rw [exec_tableRead_of_answerable tag table bank row extra hs, readTable_badTable hid, answer_afterFrame]
      rfl
  · refine ⟨fun hspecs => ⟨?_, ?_⟩, fun specs hspecs hbad => ?_, fun failing hrow => ?_, fun hpass hdrum hoff => ?_⟩
    · rw [exec_tableWrite_of_answerable tag table row fields hs, writeTable_badRow hid hspecs, answer_afterFrame]
      rfl
    · rw [exec_tableRead_of_answerable tag table bank row extra hs, readTable_badRow hid hspecs, answer_afterFrame]
      rfl
    · have hread : readFields specs fields = none := by
        rw [Option.eq_none_iff_forall_ne_some]
        intro vs hvs
        obtain ⟨hin, hwrite⟩ := (readFields_eq_some_iff (rowSpecs_fits hspecs)).mp hvs
        exact hbad vs hin hwrite
      rw [exec_tableWrite_of_answerable tag table row fields hs, writeTable_badValue hid hspecs hread, answer_afterFrame]
      rfl
    · rw [exec_tableActivate_of_answerable tag table hs, activateTable_invalid hid (by exact hrow), answer_afterFrame]
      rfl
    · have hlock : ∀ u : Ulp, lockRefuses id { s with ulp := u } = true := fun u => by
        simp only [lockRefuses, decide_eq_true_eq]
        exact ⟨hdrum, not_and_or.mpr hoff⟩
      rw [exec_tableActivate_of_answerable tag table hs, activateTable_locked hid (by exact hpass) (hlock _), answer_afterFrame]
      rfl
  · exact ⟨(failingRow_isLowest hb id).eq_none_iff, (failingRow_isLowest hb id).eq_some_iff⟩

end Sys2Proof.Machine

namespace Sys2Proof.Machine

open Sys2Proof.Safety

/-! SUPPORT. What an activation does to the owner of its table (R89, R114, R147, R157, R158), and HEAD RESET (R191). -/

/-! ### TABLE ACTIVATE of the tables but the Poll Table -/

theorem reformDuty_eq (t : SlurryTable) (u : Sru) :
    reformDuty t u
      = { u with duty := if u.pump = .prime ∨ u.pump = .run then min u.setpoint t.pump.maxDuty else u.duty } := by
  by_cases hd : u.pump = .prime ∨ u.pump = .run <;> simp [reformDuty, pumpDriven, pumpDuty, hd]

theorem slurryActivated_eq (s : State) :
    slurryActivated s
      = { s with
          sru :=
            { s.sru with
              account := min s.sru.account s.tst.active.slurry.ground.accountMax
              duty :=
                if s.sru.pump = .prime ∨ s.sru.pump = .run then min s.sru.setpoint s.tst.active.slurry.pump.maxDuty
                else s.sru.duty } } := by
  rw [slurryActivated, reformDuty_eq]
  rfl

theorem lockRefuses_eq_false {id : TableId} {s : State}
    (h : id = .drum → s.governorL.state = .off ∧ s.governorR.state = .off) : lockRefuses id s = false := by
  exact decide_eq_false fun ⟨hid, hoff⟩ => hoff (h hid)

/-- Settles O16, by the table activated. -/
theorem tableActivateCopiesLoadBank : Obligations.TableActivateCopiesLoadBank := by
  unfold Obligations.TableActivateCopiesLoadBank
  intro tag table id s hs hid hpoll hpass hoff
  refine ⟨copyTable id s.tst.load s.tst.active, sameTable_copyTable id _ _,
    fun other hne => sameTable_copyTable_of_ne hne _ _, ?_⟩
  rw [exec_tableActivate_of_answerable tag table hs,
    activateTable_ok hid (by exact hpass) (lockRefuses_eq_false (by exact hoff))]
  cases id with
  | poll => exact absurd rfl hpoll
  | slurry =>
    rw [activationEffects, slurryActivated_eq]
    rfl
  | drum | mounting | plan | steering | link => rfl

/-! ### The notices of absent roles -/

section
variable {s : State} {role : Role}

theorem absentNotice_of_present (h : ∃ r ∈ countedRows s.tst.active.poll, r.role = role) : absentNotice role s = s := by
  refine if_pos (List.any_eq_true.mpr ?_)
  simpa using h

theorem absentNotice_of_absent (h : ∀ r ∈ countedRows s.tst.active.poll, r.role ≠ role) :
    absentNotice role s = lostNotice role s := by
  refine if_neg fun hany => ?_
  obtain ⟨r, hr, he⟩ := List.any_eq_true.mp hany
  exact h r hr (of_decide_eq_true he)

/-- A role leaves the governor of the other drum, and both where it is no drum's. -/
theorem absentNotice_governor_of_ne {d : Drum} (h : role ≠ drumRole d) :
    (absentNotice role s).governor d = s.governor d := by
  unfold absentNotice
  split
  · rfl
  · cases role with
    | drumL =>
      cases d
      · exact absurd rfl h
      · rfl
    | drumR =>
      cases d
      · rfl
      · exact absurd rfl h
    | slurry | flap | inclA | inclB | aux => simp [lostNotice]

theorem absentNotice_sru_of_ne (h : role ≠ .slurry) : (absentNotice role s).sru = s.sru := by
  unfold absentNotice
  split
  · rfl
  · cases role with
    | slurry => exact absurd rfl h
    | drumL | drumR | flap | inclA | inclB | aux => simp [lostNotice]

theorem absentNotice_pps_of_ne (h : role ≠ .flap) : (absentNotice role s).pps = s.pps := by
  unfold absentNotice
  split
  · rfl
  · cases role with
    | flap => exact absurd rfl h
    | drumL | drumR | slurry | inclA | inclB | aux => simp [lostNotice]

/-- The notices reach each governor by its own role alone. -/
theorem absentNotices_governor_eq (d : Drum) :
    ∃ t : State, t.governor d = s.governor d ∧ t.tst = s.tst
      ∧ (absentNotices s).governor d = (absentNotice (drumRole d) t).governor d := by
  cases d with
  | left =>
    refine ⟨s, rfl, rfl, ?_⟩
    rw [absentNotices, absentNotice_governor_of_ne (by decide), absentNotice_governor_of_ne (by decide),
      absentNotice_governor_of_ne (by decide)]
    rfl
  | right =>
    refine ⟨absentNotice .drumL s, absentNotice_governor_of_ne (by decide), absentNotice_tst _ _, ?_⟩
    rw [absentNotices, absentNotice_governor_of_ne (by decide), absentNotice_governor_of_ne (by decide)]
    rfl

theorem absentNotices_governor_of_present {d : Drum} (h : ∃ r ∈ countedRows s.tst.active.poll, r.role = drumRole d) :
    (absentNotices s).governor d = s.governor d := by
  obtain ⟨t, hg, htst, he⟩ := absentNotices_governor_eq (s := s) d
  rw [he, absentNotice_of_present (by rw [htst]; exact h), hg]

theorem absentNotices_governor_of_absent {d : Drum} (h : ∀ r ∈ countedRows s.tst.active.poll, r.role ≠ drumRole d) :
    (absentNotices s).governor d = governorLost (s.governor d) := by
  obtain ⟨t, hg, htst, he⟩ := absentNotices_governor_eq (s := s) d
  rw [he, absentNotice_of_absent (by rw [htst]; exact h), ← hg]
  cases d <;> rfl

theorem absentNotice_slurry_sru (s : State) :
    (absentNotice .slurry s).sru
      = if (countedRows s.tst.active.poll).any (fun r => r.role = .slurry) then s.sru
        else { s.sru with dryDeadline := none } := by
  unfold absentNotice
  split <;> rfl

theorem absentNotices_sru_eq :
    (absentNotices s).sru
      = if (countedRows s.tst.active.poll).any (fun r => r.role = .slurry) then s.sru
        else { s.sru with dryDeadline := none } := by
  rw [absentNotices, absentNotice_sru_of_ne (by decide), absentNotice_slurry_sru, absentNotice_sru_of_ne (by decide),
    absentNotice_sru_of_ne (by decide), absentNotice_tst, absentNotice_tst]

/-- The state in which the FLAP role's notice is made has the plates, the time and the tables of the first. -/
theorem absentNotices_pps_eq :
    ∃ t : State, t.pps = s.pps ∧ t.tst = s.tst ∧ t.headTime = s.headTime
      ∧ (absentNotices s).pps = (absentNotice .flap t).pps := by
  refine ⟨_, ?_, ?_, ?_, rfl⟩
  · rw [absentNotice_pps_of_ne (by decide), absentNotice_pps_of_ne (by decide), absentNotice_pps_of_ne (by decide)]
  · simp only [absentNotice_tst]
  · simp only [absentNotice_headTime]

theorem absentNotices_pps_of_present (h : ∃ r ∈ countedRows s.tst.active.poll, r.role = .flap) :
    (absentNotices s).pps = s.pps := by
  obtain ⟨t, hpps, htst, -, he⟩ := absentNotices_pps_eq (s := s)
  rw [he, absentNotice_of_present (by rw [htst]; exact h), hpps]

theorem absentNotices_pps_of_absent (h : ∀ r ∈ countedRows s.tst.active.poll, r.role ≠ .flap) :
    (absentNotices s).pps = { s.pps with plates := platesAfterLost s s.pps.plates } := by
  obtain ⟨t, hpps, htst, hnow, he⟩ := absentNotices_pps_eq (s := s)
  rw [he, absentNotice_of_absent (by rw [htst]; exact h), ← hpps]
  simp only [lostNotice, flapLost, setPlates, State.setPps_pps, platesAfterLost, htst, hnow]

end

section
variable (s : State)

/-- A plate that loses its node enters NOFB, its valve turned off; its latch stays (R128). -/
theorem platesAfterLost_get (id : PlateId) :
    ((platesAfterLost s s.pps.plates).get id).stuckLatch = (s.pps.plates.get id).stuckLatch
      ∧ (moving (s.pps.plates.get id) = true →
          Stopped s.headTime s.tst.active.steering.params.reversalDwell .nofb (s.pps.plates.get id)
            ((platesAfterLost s s.pps.plates).get id))
      ∧ (moving (s.pps.plates.get id) = false →
          (platesAfterLost s s.pps.plates).get id = { s.pps.plates.get id with state := .nofb }) := by
  rw [platesAfterLost, Quad.get_mapPlates]
  cases hm : moving (s.pps.plates.get id) with
  | true =>
    obtain ⟨hstopped, hlatch⟩ := turnOff_stopped s.headTime s.tst.active.steering.params.reversalDwell .nofb _ hm
    exact ⟨hlatch, fun _ => hstopped, by simp⟩
  | false =>
    have he := turnOff_still s.headTime s.tst.active.steering.params.reversalDwell .nofb _ hm
    exact ⟨by rw [he], by simp, fun _ => he⟩

end

/-- A governor whose node is lost or whose role is absent: OFF, LOCKOUT and NOFB stay, the other states give NOFB (R70). -/
theorem governorLost_of_still {g : Governor} (h : g.state = .off ∨ g.state = .lockout ∨ g.state = .nofb) :
    governorLost g = g := by
  rcases h with h | h | h <;> simp [governorLost, h]

theorem governorLost_of_active {g : Governor} (h : driving g = true ∨ ∃ p, g.state = .trip p) :
    governorLost g = enterNofb g := by
  have hs : g.state = .run ∨ g.state = .stopping ∨ ∃ p, g.state = .trip p := by
    simpa [driving, or_assoc] using h
  rcases hs with h | h | ⟨p, h⟩ <;> simp [governorLost, h]

theorem orphaned_of_slot {tx : Transaction} {num : Nat} {role : Role} {relayBad noRelay orphan : Bool}
    (h : tx.serving = .slot num role relayBad noRelay orphan) :
    orphaned tx = { tx with serving := .slot num role relayBad noRelay true } := by
  simp [orphaned, h]

theorem orphaned_of_access {tx : Transaction} {a : Access} (h : tx.serving = .access a) : orphaned tx = tx := by
  simp [orphaned, h]

/-- The state in which the arbiter is asked at a Poll Table activation. -/
def pollReplaced (s : State) : State :=
  absentNotices
    (s.setSbm { s.sbm with bus := orphanBus s.sbm.bus, slots := freshSlots s.headTime s.tst.active.poll })

theorem pollActivated_eq (s : State) : pollActivated s = arbitrate (pollReplaced s) := rfl

@[simp] theorem pollReplaced_sbm (s : State) :
    (pollReplaced s).sbm
      = { s.sbm with bus := orphanBus s.sbm.bus, slots := freshSlots s.headTime s.tst.active.poll } := by
  simp [pollReplaced]

section
variable {s : State}

theorem pollReplaced_governor_of_present {d : Drum} (h : ∃ r ∈ countedRows s.tst.active.poll, r.role = drumRole d) :
    (pollReplaced s).governor d = s.governor d := by
  rw [pollReplaced, absentNotices_governor_of_present (by rwa [State.setSbm_tst]), State.setSbm_governor]

theorem pollReplaced_governor_of_absent {d : Drum} (h : ∀ r ∈ countedRows s.tst.active.poll, r.role ≠ drumRole d) :
    (pollReplaced s).governor d = governorLost (s.governor d) := by
  rw [pollReplaced, absentNotices_governor_of_absent (by rwa [State.setSbm_tst]), State.setSbm_governor]

theorem pollReplaced_sru_eq :
    (pollReplaced s).sru
      = if (countedRows s.tst.active.poll).any (fun r => r.role = .slurry) then s.sru
        else { s.sru with dryDeadline := none } := by
  rw [pollReplaced, absentNotices_sru_eq, State.setSbm_tst, State.setSbm_sru]

theorem pollReplaced_pps_of_present (h : ∃ r ∈ countedRows s.tst.active.poll, r.role = .flap) :
    (pollReplaced s).pps = s.pps := by
  rw [pollReplaced, absentNotices_pps_of_present (by rwa [State.setSbm_tst]), State.setSbm_pps]

theorem pollReplaced_pps_of_absent (h : ∀ r ∈ countedRows s.tst.active.poll, r.role ≠ .flap) :
    (pollReplaced s).pps = { s.pps with plates := platesAfterLost s s.pps.plates } := by
  rw [pollReplaced, absentNotices_pps_of_absent (by rwa [State.setSbm_tst]), State.setSbm_pps]
  simp only [platesAfterLost, State.setSbm_headTime, State.setSbm_tst]

end

/-- With the bus in use the arbiter does not act, and the bus is the one set apart (R147). -/
theorem pollActivated_bus_of_busy {s : State} (h : orphanBus s.sbm.bus ≠ .idle) :
    (pollActivated s).sbm.bus = orphanBus s.sbm.bus := by
  rw [pollActivated_eq, arbitrate_busy _ (by simpa using h), pollReplaced_sbm]

theorem reached_self (now : HeadTime) : reached now now = true := by
  simp [reached, interval]

/-- With fresh slots, which are all due now, an idle bus goes to slot 1 (R143). -/
theorem pollActivated_bus_of_idle {s : State} (hidle : s.sbm.bus = .idle) (hnone : s.sbm.access = none) :
    (∀ r, (countedRows s.tst.active.poll)[0]? = some r →
        (pollActivated s).sbm.bus
          = .request
              ⟨.slot 1 r.role r.relayBad r.noRelay false, r.address, s.tst.active.poll.params.rate,
                s.tst.active.poll.params.turnaround, s.tst.active.poll.params.responseTimeout⟩)
      ∧ (countedRows s.tst.active.poll = [] → (pollActivated s).sbm.bus = .idle) := by
  have hbus : (pollReplaced s).sbm.bus = .idle := by rw [pollReplaced_sbm, hidle]; rfl
  have haccess : (pollReplaced s).sbm.access = none := by rw [pollReplaced_sbm]; exact hnone
  have hslots : (pollReplaced s).sbm.slots = freshSlots s.headTime s.tst.active.poll := by rw [pollReplaced_sbm]
  have hnow : (pollReplaced s).headTime = s.headTime := by simp [pollReplaced]
  have htst : (pollReplaced s).tst = s.tst := by simp [pollReplaced]
  obtain ⟨-, -, hno, hsome⟩ := arbitrate_granted (pollReplaced s) hbus
  rw [hslots, hnow] at hno
  rw [hslots, hnow, htst] at hsome
  rw [pollActivated_eq]
  refine ⟨fun r hr => ?_, fun hempty => hno haccess (by simp [freshSlots, hempty])⟩
  have hfresh : ∀ (j : Nat) (y : Slot), (freshSlots s.headTime s.tst.active.poll)[j]? = some y → y.due = s.headTime := by
    intro j y hy
    simp only [freshSlots, List.getElem?_map, Option.map_eq_some_iff] at hy
    obtain ⟨-, -, rfl⟩ := hy
    rfl
  refine hsome haccess 0 ⟨s.headTime, 0, .unknown⟩ r ?_ hr (reached_self _) ?_
  · rw [freshSlots, List.getElem?_map, hr]
    rfl
  · intro j y hy _
    rw [hfresh j y hy]
    exact ⟨Nat.le_refl _, fun _ => Nat.zero_le _⟩

/-- A waiting access takes an idle bus first (R143). -/
theorem pollActivated_bus_of_access {s : State} (hidle : s.sbm.bus = .idle) {a : Access} (h : s.sbm.access = some a) :
    (pollActivated s).sbm.bus
      = .request
          ⟨.access a, a.address, s.tst.active.poll.params.rate, s.tst.active.poll.params.turnaround,
            s.tst.active.poll.params.responseTimeout⟩ := by
  have hbus : (pollReplaced s).sbm.bus = .idle := by rw [pollReplaced_sbm, hidle]; rfl
  have htst : (pollReplaced s).tst = s.tst := by simp [pollReplaced]
  obtain ⟨-, hgranted, -, -⟩ := arbitrate_granted (pollReplaced s) hbus
  rw [htst] at hgranted
  rw [pollActivated_eq]
  exact hgranted a (by rw [pollReplaced_sbm]; exact h)

theorem pollActivated_slots (s : State) : (pollActivated s).sbm.slots = freshSlots s.headTime s.tst.active.poll := by
  rw [pollActivated_eq]
  unfold arbitrate
  split <;> simp

theorem pollActivated_sru_eq (s : State) : (pollActivated s).sru = (pollReplaced s).sru := arbitrate_sru _

theorem pollActivated_pps_eq (s : State) : (pollActivated s).pps = (pollReplaced s).pps := arbitrate_pps _

theorem pollActivated_governor_eq (s : State) (d : Drum) : (pollActivated s).governor d = (pollReplaced s).governor d :=
  arbitrate_governor _ _

/-- Settles O17: the notices by role, and the bus by its state, the arbiter asked last. -/
theorem pollActivationStartsSlotsAfresh : Obligations.PollActivationStartsSlotsAfresh := by
  unfold Obligations.PollActivationStartsSlotsAfresh
  intro tag s hs hpass
  obtain ⟨u, hu⟩ : ∃ u : State, u = { s with
      tst := { s.tst with active := { s.tst.active with poll := s.tst.load.poll } }
      ulp := portAfterFrame s.ulp } := ⟨_, rfl⟩
  have hexec : exec (.tableActivate tag 2#8) s
      = .next (serveUplink (answer .tableActivate tag .ok [2#8] (pollActivated u))) := by
    rw [exec_tableActivate_of_answerable tag 2#8 hs,
      activateTable_ok (id := .poll) rfl (by exact hpass) (lockRefuses_eq_false (by simp)), hu]
    rfl
  have hpoll : u.tst.active.poll = s.tst.load.poll := by rw [hu]
  have hbus : u.sbm = s.sbm := by rw [hu]
  have hgov : ∀ d, u.governor d = s.governor d := by
    intro d
    rw [hu]
    cases d <;> rfl
  have hbusy := pollActivated_bus_of_busy (s := u)
  rw [hbus] at hbusy
  refine ⟨_, hexec, ?_, ?_, ?_, ?_, ?_, ?_, ?_, ?_, ?_, ?_, ?_, ?_, ?_, ?_, ?_, ?_, ?_, ?_, ?_, ?_, ?_⟩
  · rw [answer_tst, pollActivated_tst, hu]
  · rw [answer_sbm, pollActivated_slots, hpoll, hu]
    rfl
  · rw [answer_sbm, pollActivated_access, hbus]
  · intro tx num role relayBad noRelay orphan hserving
    refine ⟨fun hb => ?_, fun deadline hb => ?_⟩
    · rw [answer_sbm, hbusy (by simp [hb, orphanBus]), hb, orphanBus, orphaned_of_slot hserving]
    · rw [answer_sbm, hbusy (by simp [hb, orphanBus]), hb, orphanBus, orphaned_of_slot hserving]
  · intro d
    rw [answer_governor, pollActivated_governor_eq, ← hgov d, ← hpoll]
    refine ⟨fun hpresent => pollReplaced_governor_of_present hpresent, fun habsent => ?_⟩
    have hlost : (pollReplaced u).governor d = governorLost (u.governor d) := pollReplaced_governor_of_absent habsent
    exact ⟨fun hstill => by rw [hlost, governorLost_of_still hstill],
      fun hactive => by rw [hlost, governorLost_of_active hactive]; rfl⟩
  · rw [answer_sru, pollActivated_sru_eq, ← hpoll]
    have hsru : u.sru = s.sru := by rw [hu]
    rw [← hsru]
    exact pollReplaced_sru_eq
  · intro hpresent
    have hpps : u.pps = s.pps := by rw [hu]
    rw [answer_pps, pollActivated_pps_eq, ← hpps]
    rw [← hpoll] at hpresent
    exact pollReplaced_pps_of_present hpresent
  · intro habsent
    have hpps : (pollReplaced u).pps = { s.pps with plates := platesAfterLost s s.pps.plates } := by
      rw [← hpoll] at habsent
      rw [pollReplaced_pps_of_absent habsent, hu]
      rfl
    rw [answer_pps, pollActivated_pps_eq, hpps]
    exact ⟨rfl, rfl, platesAfterLost_get s⟩
  · intro hidle hnone r hr
    rw [← hpoll] at hr ⊢
    rw [← hbus] at hidle hnone
    rw [answer_sbm]
    exact (pollActivated_bus_of_idle hidle hnone).1 r hr
  · intro hidle hnone hempty
    rw [← hpoll] at hempty
    rw [← hbus] at hidle hnone
    rw [answer_sbm]
    exact (pollActivated_bus_of_idle hidle hnone).2 hempty
  · intro hidle a ha
    rw [← hpoll]
    rw [← hbus] at hidle ha
    rw [answer_sbm]
    exact pollActivated_bus_of_access hidle ha
  · intro deadline hb
    rw [answer_sbm, hbusy (by simp [hb, orphanBus]), hb, orphanBus]
  · intro tx a hserving
    refine ⟨fun hb => ?_, fun deadline hb => ?_⟩
    · rw [answer_sbm, hbusy (by simp [hb, orphanBus]), hb, orphanBus, orphaned_of_access hserving]
    · rw [answer_sbm, hbusy (by simp [hb, orphanBus]), hb, orphanBus, orphaned_of_access hserving]
  · rw [answer, pushAnswer, State.setUlp_ulp, pollActivated_ulp, hu]
    rfl
  · rw [answer_rpu, pollActivated_rpu, hu]
  · rw [answer_vtr, pollActivated_vtr, hu]
  · rw [answer_spl, pollActivated_spl, hu]
  · rw [answer_nSet, pollActivated_nSet, hu]
  · rw [answer_headTime, pollActivated_headTime, hu]
  · rw [answer_freeSeq, pollActivated_freeSeq, hu]
  · rw [answer_pending, pollActivated_pending, hu]

/-! ### HEAD RESET -/

/-- Where the planner's reset hands no target change, the positioner's reset stops the moving plates only. -/
theorem headResetSteering_stops {s : State} (h : effectiveMode s ≠ .auto ∨ s.spl.targets = ⟨0, 0, 0, 0⟩) :
    MovingStopped s (headResetSteering s).pps.plates := by
  have hplanner : headResetPlanner s = s.setSpl resetSpl := by
    refine if_neg ?_
    rintro ⟨hne, hauto⟩
    obtain hmode | htargets := h
    · exact hmode hauto
    · exact hne htargets.symm
  obtain he | he := headResetSteering_order s
  · rw [he, hplanner]
    exact stopMoving_spec s
  · rw [he, headResetPlanner_afterPlates]
    exact stopMoving_spec s

theorem exec_headReset_of_answerable (tag : Byte) {s : State} (h : answerable s) :
    exec (.headReset tag) s = .next (serveUplink (requestHeadReset tag { s with ulp := portAfterFrame s.ulp })) :=
  exec_request_of_answerable rfl (fun _ => rfl) h

/-- Settles O23, block by block; the planner and the positioner are reset in one of two orders. -/
theorem headResetResetsBlocks : Obligations.HeadResetResetsBlocks := by
  unfold Obligations.HeadResetResetsBlocks
  intro tag s hs
  obtain ⟨u, hu⟩ : ∃ u : State, u = { s with ulp := portAfterFrame s.ulp } := ⟨_, rfl⟩
  have hpps : u.pps = s.pps := by rw [hu]
  obtain ⟨hmode, hmanual, hplates⟩ := headResetSteering_pps u
  refine ⟨_, exec_headReset_of_answerable tag hs, ?_⟩
  rw [← hu]
  refine ⟨?_, ?_, ?_, ?_, ?_, ?_, ?_, ?_, ?_, ?_, ?_, ?_, ?_, ?_, ?_⟩
  · simp only [requestHeadReset, answer_vtr, State.setRpu_vtr, State.setUlp_vtr, State.setSbm_vtr, State.setVtr_vtr]
    simp [hu, headResetVtr, loseDepth, clearOpen, emptyAccumulator]
  · simp [requestHeadReset, headResetSteering_spl, resetSpl, Quad.all]
  · simp [requestHeadReset]
  · intro d
    have hgov : (requestHeadReset tag u).governor d = governorHeadReset (s.governor d) := by
      have hsame : u.governor d = s.governor d := by
        rw [hu]
        cases d <;> rfl
      simp [requestHeadReset, hsame]
    rw [hgov, governorHeadReset]
    split <;> rfl
  · have hsru : (requestHeadReset tag u).sru = headResetSru s.headTime s.sru := by simp [requestHeadReset, hu]
    rw [hsru, headResetSru]
    by_cases hlock : s.sru.pump = .lockout
    · simp [hlock]
    · simp [hlock, enterPumpOff]
  · simpa [requestHeadReset] using hmode
  · simpa [requestHeadReset, Quad.all] using hmanual
  · simpa [requestHeadReset, hpps] using hplates
  · intro hkept
    have hstops := headResetSteering_stops (s := u) (by rw [hu]; exact hkept)
    have hplates' : (requestHeadReset tag u).pps.plates = (headResetSteering u).pps.plates := by simp [requestHeadReset]
    rw [hplates']
    rw [hu] at hstops ⊢
    exact hstops
  · simp [requestHeadReset, headResetSbm, freshSlots, hu, after]
  · simp [requestHeadReset, hu, headResetUlp, answer, pushAnswer, portAfterFrame, after, clearSummary, downlinkCode]
  · have hlink : s.ulp.link ≠ .hunt := hs.1
    simp [requestHeadReset, headResetRpu, hu, hlink, after]
  · simp [requestHeadReset, hu]
  · simp [requestHeadReset, hu]
  · simp [requestHeadReset, hu]

end Sys2Proof.Machine

namespace Sys2Proof.Machine

open Sys2Proof.Safety

/-! SUPPORT. Downlink frames: what their bytes spell, and what their characters do (R168, R174, R175). -/

/-! ### Bytes and fields -/

theorem ofNat_ofLe_leBytes {w n : Nat} (h : 2 ^ w = 256 ^ n) (v : BitVec w) : BitVec.ofNat w (ofLe (leBytes n v.toNat)) = v := by
  rw [ofLe_leBytes_of_lt (h ▸ v.isLt)]
  exact BitVec.eq_of_toNat_eq (by simp)

/-- The fields of a CONTROL payload are those that were written. -/
theorem controlOf_controlBytes (f : ControlFields) : controlOf (controlBytes f) = some f := by
  have h16 : ∀ v : BitVec 16, BitVec.ofNat 16 (ofLe (leBytes 2 v.toNat)) = v := ofNat_ofLe_leBytes (by decide)
  have h32 : ∀ v : BitVec 32, BitVec.ofNat 32 (ofLe (leBytes 4 v.toNat)) = v := ofNat_ofLe_leBytes (by decide)
  have he : controlOf (controlBytes f)
      = some
        { depth := BitVec.ofNat 32 (ofLe (leBytes 4 f.depth.toNat)), nSet := BitVec.ofNat 16 (ofLe (leBytes 2 f.nSet.toNat))
          enableL := f.enableL, enableR := f.enableR, directionL := f.directionL, directionR := f.directionR
          pumpEnable := f.pumpEnable, pumpSetpoint := BitVec.ofNat 16 (ofLe (leBytes 2 f.pumpSetpoint.toNat))
          supplyDensity := BitVec.ofNat 16 (ofLe (leBytes 2 f.supplyDensity.toNat)), mode := f.mode
          manualDelta := BitVec.ofNat 16 (ofLe (leBytes 2 f.manualDelta.toNat))
          manualP1 := BitVec.ofNat 16 (ofLe (leBytes 2 f.manualP1.toNat))
          manualP2 := BitVec.ofNat 16 (ofLe (leBytes 2 f.manualP2.toNat))
          manualP3 := BitVec.ofNat 16 (ofLe (leBytes 2 f.manualP3.toNat))
          manualP4 := BitVec.ofNat 16 (ofLe (leBytes 2 f.manualP4.toNat)) } := rfl
  rw [he]
  simp only [h16, h32]

/-- The kind, the tag and the payload of a command spell it. -/
theorem payloadCommand_frameOf {i : Instr} {kind tag : Byte} {payload : List Byte}
    (h : frameOf i = some (kind, tag, payload)) : payloadCommand kind tag payload = some i := by
  have h16 : ∀ v : BitVec 16, BitVec.ofNat 16 (ofLe (leBytes 2 v.toNat)) = v := ofNat_ofLe_leBytes (by decide)
  have h32 : ∀ v : BitVec 32, BitVec.ofNat 32 (ofLe (leBytes 4 v.toNat)) = v := ofNat_ofLe_leBytes (by decide)
  cases i with
  | control tag f =>
    cases h
    have he : payloadCommand 0x10#8 tag (controlBytes f) = (controlOf (controlBytes f)).map (fun f => .control tag f) := rfl
    rw [he, controlOf_controlBytes]
    rfl
  | panelStart tag d0 ox oy =>
    cases h
    have he : payloadCommand 0x30#8 tag (leBytes 4 d0.toNat ++ leBytes 2 ox.toNat ++ leBytes 2 oy.toNat)
        = some (.panelStart tag (BitVec.ofNat 32 (ofLe (leBytes 4 d0.toNat)))
            (BitVec.ofNat 16 (ofLe (leBytes 2 ox.toNat))) (BitVec.ofNat 16 (ofLe (leBytes 2 oy.toNat)))) := rfl
    rw [he, h32, h16, h16]
  | logRead tag first count =>
    cases h
    have he : payloadCommand 0x31#8 tag (leBytes 2 first.toNat ++ [count])
        = some (.logRead tag (BitVec.ofNat 16 (ofLe (leBytes 2 first.toNat))) count) := rfl
    rw [he, h16]
  | nodeAccess tag address op register value =>
    cases h
    have he : payloadCommand 0x33#8 tag (address :: op :: register :: leBytes 2 value.toNat)
        = some (.nodeAccess tag address op register (BitVec.ofNat 16 (ofLe (leBytes 2 value.toNat)))) := rfl
    rw [he, h16]
  | tableOpen | tableWrite | tableActivate | tableRead | clear | statusRequest | echo | headReset =>
    cases h
    rfl
  | _ => cases h

/-- The payload of a command that can arrive fits a downlink frame. -/
theorem payload_fits {i : Instr} (hw : i.wellFormed = true) {kind tag : Byte} {payload : List Byte}
    (h : frameOf i = some (kind, tag, payload)) : payload.length ≤ 120 := by
  cases i <;> cases h
  case tableWrite =>
    have := of_decide_eq_true hw
    simp only [maxDownlinkPayload, List.length_cons] at this ⊢
    omega
  case tableRead =>
    have := of_decide_eq_true hw
    simp only [maxDownlinkPayload, List.length_cons] at this ⊢
    omega
  case echo => exact of_decide_eq_true hw
  all_goals simp [controlBytes]

/-- The characters of a frame after its start character. -/
def frameRest (kind tag : Byte) (payload : List Byte) : List Byte :=
  BitVec.ofNat 8 payload.length :: kind :: tag
    :: (payload ++ leBytes 2 (crc16 (BitVec.ofNat 8 payload.length :: kind :: tag :: payload)).toNat)

theorem length_byte_toNat {payload : List Byte} (h : payload.length ≤ 120) :
    (BitVec.ofNat 8 payload.length).toNat = payload.length := by
  rw [BitVec.toNat_ofNat]
  exact Nat.mod_eq_of_lt (by omega)

/-- What a frame is read from: the CRC over the fields before it, and the payload as long as the length says. -/
theorem decodeFrame_append (len kind tag : Byte) {payload : List Byte} (crc : List Byte) (h : payload.length = len.toNat) :
    decodeFrame (len :: kind :: tag :: (payload ++ crc))
      = if leBytes 2 (crc16 (len :: kind :: tag :: payload)).toNat = crc then payloadCommand kind tag payload else none := by
  simp only [decodeFrame, ← h, List.take_left, List.drop_left]

theorem decodeFrame_frameRest {kind tag : Byte} {payload : List Byte} (h : payload.length ≤ 120) :
    decodeFrame (frameRest kind tag payload) = payloadCommand kind tag payload := by
  rw [frameRest, decodeFrame_append _ _ _ _ (length_byte_toNat h).symm, if_pos rfl]

/-- Settles O5: the payload spells the command, and the length and the CRC are those of the payload. -/
theorem frameDecodesToItsCommand : Obligations.FrameDecodesToItsCommand := by
  unfold Obligations.FrameDecodesToItsCommand
  intro i hw hframe
  obtain ⟨⟨kind, tag, payload⟩, hf⟩ := Option.ne_none_iff_exists'.mp hframe
  refine ⟨frameRest kind tag payload, by rw [encodeFrame, hf]; rfl, ?_⟩
  rw [decodeFrame_frameRest (payload_fits hw hf), payloadCommand_frameOf hf]

/-! ### The characters of a frame -/

/-- A character sent with even parity and its stop bit is not in error (R168). -/
theorem charError_goodChar (b : Byte) : charError (goodChar b) = false := by
  by_cases h : onesCount b % 2 = 1
  · have heven : (onesCount b + 1) % 2 = 0 := by omega
    simp [charError, goodChar, parityError, boolNat, h, heven]
  · have heven : onesCount b % 2 = 0 := by omega
    simp [charError, goodChar, parityError, boolNat, heven]

/-- The arbiter leaves a state as it is when the uplink takes nothing, whatever the assembly and the queue are. -/
theorem serveUplink_settled {s : State} (h : serveUplink s = s) (rx : RxAssembly) (q : List Instr) :
    serveUplink { s with ulp := { s.ulp with rx := rx }, pending := q }
      = { s with ulp := { s.ulp with rx := rx }, pending := q } := by
  by_cases hfree : s.ulp.uplink = .idle ∧ s.ulp.link ≠ .hunt
  · have hnone : firstSource s = none := by
      cases hf : firstSource s with
      | none => rfl
      | some x =>
        have he : serveUplink s = startFrame (sourceFrame s x) (takeSource x s) := by
          simp [serveUplink, hfree, hf]
        have hup := congrArg (fun t : State => t.ulp.uplink) (he.symm.trans h)
        simp [startFrame, hfree.1] at hup
    have hsame : firstSource { s with ulp := { s.ulp with rx := rx }, pending := q } = none := hnone
    unfold serveUplink
    rw [hsame]
    split <;> rfl
  · exact if_neg hfree

/-- A frame is taken alike from every assembly. -/
theorem takeFrame_rx (i : Instr) (s : State) (rx : RxAssembly) (h : s.ulp.link ≠ .hunt) :
    takeFrame i (s.setUlp { s.ulp with rx := rx }) = takeFrame i s := by
  have h' : (s.setUlp { s.ulp with rx := rx }).ulp.link ≠ .hunt := h
  rw [takeFrame_eq i _ h', takeFrame_eq i s h]
  rfl

theorem exec_frame {i : Instr} (h : frameOf i ≠ none) (s : State) : exec i s = .next (serveUplink (takeFrame i s)) := by
  cases i <;> simp [frameOf] at h <;> rfl

theorem exec_syncCharacter (c : LinkChar) (s : State) :
    exec (.syncCharacter c) s = .next (serveUplink (receiveCharacter c s)) := rfl

theorem run_cons {c : Instr} {rest : List Instr} {s t : State} (k : Nat) (hs : s.pending = c :: rest)
    (h : exec c (s.setPending rest) = .next t) : Sys2Proof.core.run (k + 1) s = Sys2Proof.core.run k t := by
  have hstep : Sys2Proof.core.step s = .next t := by
    show step s = .next t
    rw [step, hs]
    exact h
  simp [Host.Core.run, hstep]

/-- The state while the characters `gathered` of a frame are held and the commands `q` wait. -/
def gatheringState (s : State) (gathered : List Byte) (q : List Instr) : State :=
  { s with ulp := { s.ulp with rx := .gathering gathered }, pending := q }

/-- The length of a frame is known from its first character on. -/
theorem frameLength_of_prefix {len : Byte} {tail gathered rest : List Byte} (h : gathered ++ rest = len :: tail)
    (hne : gathered ≠ []) : frameLength gathered = len.toNat + 5 := by
  cases gathered with
  | nil => exact absurd rfl hne
  | cons x xs =>
    cases h
    rfl

/-- A good character of a frame, its length in range, that does not complete it is gathered. -/
theorem receive_gathering {s : State} (hlink : s.ulp.link ≠ .hunt) {gathered : List Byte} {b : Byte} {q : List Instr}
    (hlen : frameLength (gathered ++ [b]) ≤ 125) (hmore : (gathered ++ [b]).length < frameLength (gathered ++ [b])) :
    receiveCharacter (goodChar b) (gatheringState s gathered q) = gatheringState s (gathered ++ [b]) q := by
  have hdata : (goodChar b).data = b := rfl
  have hnot : ¬maxDownlinkPayload + 5 < frameLength (gathered ++ [b]) := Nat.not_lt.mpr hlen
  have hl : ¬(gatheringState s gathered q).ulp.link = .hunt := hlink
  have hrx : (gatheringState s gathered q).ulp.rx = .gathering gathered := rfl
  simp only [receiveCharacter, if_neg hl, assembleCharacter, hrx, charError_goodChar, hdata, if_neg hnot, if_pos hmore]
  rfl

/-- The last good character of a frame that decodes takes the frame. -/
theorem receive_completing {s : State} (hlink : s.ulp.link ≠ .hunt) {gathered : List Byte} {b : Byte} {i : Instr}
    {q : List Instr} (hlen : frameLength (gathered ++ [b]) ≤ 125)
    (hall : ¬(gathered ++ [b]).length < frameLength (gathered ++ [b])) (hi : decodeFrame (gathered ++ [b]) = some i) :
    receiveCharacter (goodChar b) (gatheringState s gathered q) = takeFrame i (s.setPending q) := by
  have hdata : (goodChar b).data = b := rfl
  have hnot : ¬maxDownlinkPayload + 5 < frameLength (gathered ++ [b]) := Nat.not_lt.mpr hlen
  have hl : ¬(gatheringState s gathered q).ulp.link = .hunt := hlink
  have hrx : (gatheringState s gathered q).ulp.rx = .gathering gathered := rfl
  simp only [receiveCharacter, if_neg hl, assembleCharacter, hrx, charError_goodChar, hdata, if_neg hnot, if_neg hall, hi]
  exact takeFrame_rx i (s.setPending q) (.gathering gathered) hlink

/-- The characters of a frame still to come, after those gathered, run its command. -/
theorem run_frame {s : State} {i : Instr} {len : Byte} {tail : List Byte} (hlink : s.ulp.link ≠ .hunt)
    (hsettled : serveUplink s = s) (hframe : frameOf i ≠ none) (hi : decodeFrame (len :: tail) = some i)
    (hlen : len.toNat ≤ 120) (hlength : (len :: tail).length = len.toNat + 5) (rest gathered : List Byte) (b : Byte)
    (h : gathered ++ b :: rest = len :: tail) :
    Sys2Proof.core.run (rest.length + 1)
        (gatheringState s gathered ((b :: rest).map (fun b => .syncCharacter (goodChar b))))
      = exec i (s.setPending []) := by
  induction rest generalizing gathered b with
  | nil =>
    have hfl := frameLength_of_prefix (gathered := gathered ++ [b]) (rest := []) (by simpa using h) (by simp)
    have hreceive : receiveCharacter (goodChar b) (gatheringState s gathered []) = takeFrame i (s.setPending []) :=
      receive_completing hlink (by omega) (by rw [hfl, ← hlength, ← h]; simp) (h ▸ hi)
    have hexec : exec (.syncCharacter (goodChar b)) (gatheringState s gathered [])
        = .next (serveUplink (takeFrame i (s.setPending []))) := by rw [exec_syncCharacter, hreceive]
    rw [exec_frame hframe]
    exact run_cons 0 rfl hexec
  | cons c rest ih =>
    have hfl := frameLength_of_prefix (gathered := gathered ++ [b]) (rest := c :: rest) (by simpa using h) (by simp)
    have hshort : (gathered ++ [b]).length < frameLength (gathered ++ [b]) := by
      rw [hfl, ← hlength, ← h]
      simp
    have hexec : exec (.syncCharacter (goodChar b))
          (gatheringState s gathered ((c :: rest).map (fun b => .syncCharacter (goodChar b))))
        = .next (gatheringState s (gathered ++ [b]) ((c :: rest).map (fun b => .syncCharacter (goodChar b)))) := by
      rw [exec_syncCharacter, receive_gathering hlink (by omega) hshort]
      exact congrArg _ (serveUplink_settled hsettled _ _)
    rw [← ih (gathered ++ [b]) c (by simpa using h)]
    exact run_cons (rest.length + 1) rfl hexec

/-- Settles O6: the start character begins the assembly, and the rest is gathered until it completes. -/
theorem frameCharactersRunTheFrame : Obligations.FrameCharactersRunTheFrame := by
  unfold Obligations.FrameCharactersRunTheFrame
  intro i bytes s hw hbytes hlink hrx hsettled
  obtain ⟨⟨kind, tag, payload⟩, hf, rfl⟩ := Option.map_eq_some_iff.mp hbytes
  have hfits := payload_fits hw hf
  have hi : decodeFrame (frameRest kind tag payload) = some i := by
    rw [decodeFrame_frameRest hfits, payloadCommand_frameOf hf]
  have hlen := length_byte_toNat hfits
  have hstart : exec (.syncCharacter (goodChar 0xC3#8))
        (s.setPending ((frameRest kind tag payload).map (fun b => .syncCharacter (goodChar b))))
      = .next (gatheringState s [] ((frameRest kind tag payload).map (fun b => .syncCharacter (goodChar b)))) := by
    have hreceive : receiveCharacter (goodChar 0xC3#8)
          (s.setPending ((frameRest kind tag payload).map (fun b => .syncCharacter (goodChar b))))
        = gatheringState s [] ((frameRest kind tag payload).map (fun b => .syncCharacter (goodChar b))) := by
      have hgood : (goodChar 0xC3#8).data = frameStart ∧ charError (goodChar 0xC3#8) = false := ⟨rfl, charError_goodChar _⟩
      simp only [receiveCharacter, State.setPending_ulp, if_neg hlink, assembleCharacter, hrx, if_pos hgood]
      rfl
    rw [exec_syncCharacter, hreceive]
    exact congrArg _ (serveUplink_settled hsettled _ _)
  have hrun := run_frame hlink hsettled (by simp [hf]) hi (by omega) (by simp [hlen]) _ [] _ rfl
  rw [← hrun]
  exact run_cons _ rfl hstart

end Sys2Proof.Machine

namespace Sys2Proof.Machine

open Sys2Proof.Safety

/-! SUPPORT. Discards, HUNT, the lock and the link's timeouts (R169 to R175, R177). -/

/-! ### Discards -/

theorem controlOf_length {p : List Byte} (h : controlOf p ≠ none) : p.length = 26 := by
  unfold controlOf at h
  split at h
  · simp
  · exact absurd rfl h

/-- A kind outside section 9.4 spells no command: one look at each value of the byte. -/
theorem payloadCommand_of_unknown (kind tag : Byte) (h : kind.toNat ∉ downlinkKinds) (p : List Byte) :
    payloadCommand kind tag p = none := by
  obtain ⟨⟨k, hk⟩⟩ := kind
  interval_cases k
  any_goals rfl
  all_goals exact absurd (by simp [downlinkKinds]) h

/-! A payload of a fixed-length kind spells a command only in that length. -/

theorem control_length {tag : Byte} {p : List Byte} {i : Instr} (h : payloadCommand 0x10#8 tag p = some i) :
    p.length = 26 := by
  obtain ⟨f, hf, -⟩ := Option.map_eq_some_iff.mp (show (controlOf p).map (fun f => .control tag f) = some i from h)
  exact controlOf_length (by simp [hf])

theorem tableOpen_length {tag : Byte} {p : List Byte} {i : Instr} (h : payloadCommand 0x20#8 tag p = some i) :
    p.length = 1 :=
  match p, h with
  | [_], _ => rfl

theorem tableWrite_length {tag : Byte} {p : List Byte} {i : Instr} (h : payloadCommand 0x21#8 tag p = some i) :
    2 ≤ p.length :=
  match p, h with
  | _ :: _ :: _, _ => by simp

theorem tableActivate_length {tag : Byte} {p : List Byte} {i : Instr} (h : payloadCommand 0x22#8 tag p = some i) :
    p.length = 1 :=
  match p, h with
  | [_], _ => rfl

theorem tableRead_length {tag : Byte} {p : List Byte} {i : Instr} (h : payloadCommand 0x23#8 tag p = some i) :
    3 ≤ p.length :=
  match p, h with
  | _ :: _ :: _ :: _, _ => by simp

theorem panelStart_length {tag : Byte} {p : List Byte} {i : Instr} (h : payloadCommand 0x30#8 tag p = some i) :
    p.length = 8 :=
  match p, h with
  | [_, _, _, _, _, _, _, _], _ => rfl

theorem logRead_length {tag : Byte} {p : List Byte} {i : Instr} (h : payloadCommand 0x31#8 tag p = some i) :
    p.length = 3 :=
  match p, h with
  | [_, _, _], _ => rfl

theorem clear_length {tag : Byte} {p : List Byte} {i : Instr} (h : payloadCommand 0x32#8 tag p = some i) :
    p.length = 1 :=
  match p, h with
  | [_], _ => rfl

theorem nodeAccess_length {tag : Byte} {p : List Byte} {i : Instr} (h : payloadCommand 0x33#8 tag p = some i) :
    p.length = 5 :=
  match p, h with
  | [_, _, _, _, _], _ => rfl

theorem statusRequest_length {tag : Byte} {p : List Byte} {i : Instr} (h : payloadCommand 0x34#8 tag p = some i) :
    p.length = 0 :=
  match p, h with
  | [], _ => rfl

theorem headReset_length {tag : Byte} {p : List Byte} {i : Instr} (h : payloadCommand 0x3F#8 tag p = some i) :
    p.length = 0 :=
  match p, h with
  | [], _ => rfl

theorem payloadCommand_fixedLength {kind tag : Byte} {p : List Byte} {i : Instr} (h : payloadCommand kind tag p = some i)
    {n : Nat} (hn : (kind.toNat, n) ∈ fixedLengths) : p.length = n := by
  have hkind : ∀ {k : Nat}, kind.toNat = k → kind = BitVec.ofNat 8 k := fun hk => BitVec.eq_of_toNat_eq (by simp [← hk])
  simp only [fixedLengths, List.mem_cons, Prod.mk.injEq, List.not_mem_nil, or_false] at hn
  rcases hn with ⟨hk, rfl⟩ | ⟨hk, rfl⟩ | ⟨hk, rfl⟩ | ⟨hk, rfl⟩ | ⟨hk, rfl⟩ | ⟨hk, rfl⟩ | ⟨hk, rfl⟩ | ⟨hk, rfl⟩
    | ⟨hk, rfl⟩ <;> rw [hkind hk] at h
  · exact control_length h
  · exact tableOpen_length h
  · exact tableActivate_length h
  · exact panelStart_length h
  · exact logRead_length h
  · exact clear_length h
  · exact nodeAccess_length h
  · exact statusRequest_length h
  · exact headReset_length h

/-- A payload spells a command only of a downlink kind and in a length of that kind. -/
theorem payloadCommand_fits {kind tag : Byte} {p : List Byte} {i : Instr} (h : payloadCommand kind tag p = some i) :
    kind.toNat ∈ downlinkKinds ∧ (∀ n, (kind.toNat, n) ∈ fixedLengths → p.length = n)
      ∧ (kind = 0x21#8 → 2 ≤ p.length) ∧ (kind = 0x23#8 → 3 ≤ p.length) := by
  refine ⟨?_, fun n hn => payloadCommand_fixedLength h hn, ?_, ?_⟩
  · by_contra hk
    rw [payloadCommand_of_unknown kind tag hk] at h
    cases h
  · rintro rfl
    exact tableWrite_length h
  · rintro rfl
    exact tableRead_length h

/-- A frame that fails a check at its completion spells no command. -/
theorem decodeFrame_completionFails {len kind tag : Byte} {payload crc : List Byte} (hlen : payload.length = len.toNat)
    (h : CompletionFails len kind tag payload crc) : decodeFrame (len :: kind :: tag :: (payload ++ crc)) = none := by
  rw [decodeFrame_append _ _ _ _ hlen]
  split
  · next hcrc =>
    by_contra hne
    obtain ⟨i, hi⟩ := Option.ne_none_iff_exists'.mp hne
    obtain ⟨hkind, hfixed, hwrite, hread⟩ := payloadCommand_fits hi
    rcases h with h | h | ⟨n, hn, h⟩ | ⟨hk, h⟩ | ⟨hk, h⟩
    · exact h hcrc.symm
    · exact h hkind
    · exact h (hlen ▸ hfixed n hn)
    · have := hwrite hk
      omega
    · have := hread hk
      omega
  · rfl

/-- Settles O7. -/
theorem discardedFrameIsCounted : Obligations.DiscardedFrameIsCounted := by
  unfold Obligations.DiscardedFrameIsCounted
  intro s hlink
  have htake : takeDiscard s = discardFrame s := if_neg hlink
  have hdiscard : Discarded s (discardFrame s) := discardFrame_discarded s
  have hreceive : ∀ c, exec (.syncCharacter c) s = .next (serveUplink (assembleCharacter c s)) := by
    intro c
    rw [exec_syncCharacter, receiveCharacter, if_neg hlink]
  refine ⟨?cause, ?gap, ?noGap, ?error, ?long, ?complete, ?outside⟩
  case cause =>
    intro cause
    exact ⟨discardFrame s, by rw [← htake]; rfl, hdiscard⟩
  case gap =>
    intro chars hrx
    refine ⟨discardFrame s, ?_, hdiscard⟩
    show Host.Outcome.next (serveUplink (gapExpiry s)) = _
    rw [gapExpiry, hrx, htake]
  case noGap =>
    intro hrx
    show Host.Outcome.next (serveUplink (gapExpiry s)) = _
    rw [gapExpiry, hrx]
  case error =>
    intro chars c hrx herr
    exact ⟨discardFrame s, by simp only [hreceive, assembleCharacter, hrx, herr, if_true], hdiscard⟩
  case long =>
    intro c hrx hok hlong
    have hover : maxDownlinkPayload + 5 < frameLength ([] ++ [c.data]) := Nat.add_lt_add_right hlong 5
    refine ⟨discardFrame s, ?_, hdiscard⟩
    simp only [hreceive, assembleCharacter, hrx, hok, Bool.false_eq_true, if_false, if_pos hover]
  case complete =>
    intro len kind tag low payload c hrx hlen hfits hok hfails
    have hmore : (len :: kind :: tag :: (payload ++ [low])) ++ [c.data] = len :: kind :: tag :: (payload ++ [low, c.data]) := by
      simp
    have hshort : ¬maxDownlinkPayload + 5 < frameLength (len :: kind :: tag :: (payload ++ [low, c.data])) :=
      Nat.not_lt.mpr (Nat.add_le_add_right hfits 5)
    have hall : ¬(len :: kind :: tag :: (payload ++ [low, c.data])).length
        < frameLength (len :: kind :: tag :: (payload ++ [low, c.data])) := by
      simp [frameLength, hlen]
    refine ⟨discardFrame s, ?_, hdiscard⟩
    simp only [hreceive, assembleCharacter, hrx, hok, Bool.false_eq_true, if_false, hmore, if_neg hshort, if_neg hall,
      decodeFrame_completionFails hlen hfails]
  case outside =>
    intro c hrx hc
    have hno : ¬(c.data = frameStart ∧ charError c = false) := by
      rintro ⟨hdata, hok⟩
      rcases hc with hc | hc
      · simp [hok] at hc
      · exact hc hdata
    simp only [hreceive, assembleCharacter, hrx, if_neg hno]

/-! ### Frames that are not executed -/

/-- A frame of another kind than CONTROL and STATUS REQUEST is of an answered kind. -/
theorem answeredKind_of_frameOf {i : Instr} {kind tag : Byte} {payload : List Byte}
    (h : frameOf i = some (kind, tag, payload)) (hc : kind ≠ 0x10#8) (hs : kind ≠ 0x34#8) : answeredKind i = true := by
  cases i <;> cases h
  case control => exact absurd rfl hc
  case statusRequest => exact absurd rfl hs
  all_goals rfl

/-- Settles O8. -/
theorem requestNotExecuted : Obligations.RequestNotExecuted := by
  unfold Obligations.RequestNotExecuted
  refine ⟨?_, ?_⟩
  · rintro i s hhunt (hframe | ⟨cause, rfl⟩)
    · rw [exec_frame hframe, takeFrame_hunt i s hhunt, serveUplink_hunt s hhunt]
    · show Host.Outcome.next (serveUplink (takeDiscard s)) = _
      rw [takeDiscard, if_pos hhunt, serveUplink_hunt s hhunt]
  · intro i kind tag payload s hframe hc hs hlink hfull
    rw [exec_frame (by simp [hframe]), takeFrame_eq i s hlink, executeFrame_eq]
    rw [if_pos ⟨answeredKind_of_frameOf hframe hc hs, (by simpa [answerPlaces, occupiedPlaces, boolNat] using hfull)⟩]
    rfl

/-! ### The lock and the dwell -/

theorem huntCharacter_other {c : LinkChar} (h : ¬(c.data = 0x55#8 ∧ charError c = false)) (s : State) :
    huntCharacter c s = s.setUlp { s.ulp with lockRun := 0 } := if_neg h

theorem huntCharacter_counted {c : LinkChar} (h : c.data = 0x55#8 ∧ charError c = false) {s : State}
    (hrun : s.ulp.lockRun < 7) : huntCharacter c s = s.setUlp { s.ulp with lockRun := s.ulp.lockRun + 1 } := by
  rw [huntCharacter, if_pos h, if_neg (by omega)]

theorem huntCharacter_locked {c : LinkChar} (h : c.data = 0x55#8 ∧ charError c = false) {s : State}
    (hrun : s.ulp.lockRun = 7) : huntCharacter c s = lockLink s := by
  rw [huntCharacter, if_pos h, if_pos (by omega)]

/-- The port, the deadlines and the plates after the lock. -/
theorem lockLink_spec (s : State) :
    (lockLink s).ulp
        = { s.ulp with
            link := .online, lockRun := 0, dwellDeadline := none
            linkDeadline := some (after s.headTime s.tst.active.link.linkTimeout), uplink := .sync }
      ∧ (lockLink s).rpu = { s.rpu with statusDeadline := some (after s.headTime s.tst.active.link.statusPeriod) }
      ∧ (∀ id, Decided s.headTime s.tst.active.steering.params
          (targetOf s.pps.mode s.spl.targets s.pps.manualTargets id) (s.pps.plates.get id)
          ((lockLink s).pps.plates.get id))
      ∧ lockLink s = { s with ulp := (lockLink s).ulp, rpu := (lockLink s).rpu
                              pps := { s.pps with plates := (lockLink s).pps.plates } } :=
  by
  obtain ⟨t, ht⟩ : ∃ t, t = startStatusDeadline (restartLinkDeadline
      (s.setUlp { s.ulp with link := .online, dwellDeadline := none, lockRun := 0, uplink := .sync })) := ⟨_, rfl⟩
  have hlock : lockLink s = decisionPass t := by rw [ht]; rfl
  refine ⟨rfl, rfl, fun id => ?_, rfl⟩
  have h := decisionPass_decided t (by rw [ht]; rfl) id
  rw [hlock]
  subst ht
  exact h

/-- Settles O9. -/
theorem huntSearchesAndLocks : Obligations.HuntSearchesAndLocks := by
  unfold Obligations.HuntSearchesAndLocks
  intro c s hhunt
  have hreceive : exec (.syncCharacter c) s = .next (serveUplink (huntCharacter c s)) := by
    rw [exec_syncCharacter, receiveCharacter, if_pos hhunt]
  refine ⟨?other, ?counted, ?locked, ?dwell⟩
  case other =>
    intro h
    rw [hreceive, huntCharacter_other h]
    exact congrArg _ (serveUplink_hunt _ hhunt)
  case counted =>
    intro hdata hok hrun
    rw [hreceive, huntCharacter_counted ⟨hdata, hok⟩ hrun]
    exact congrArg _ (serveUplink_hunt _ hhunt)
  case locked =>
    intro hdata hok hrun
    obtain ⟨hulp, hrpu, hplates, hrest⟩ := lockLink_spec s
    refine ⟨lockLink s, ?_, hulp, hrpu, hplates, hrest⟩
    rw [hreceive, huntCharacter_locked ⟨hdata, hok⟩ hrun]
    exact congrArg _ (serveUplink_busy _ (by simp [hulp]))
  case dwell =>
    intro deadline hd hreached
    have hexpired : s.ulp.link = .hunt ∧ expired s.ulp.dwellDeadline s.headTime = true := ⟨hhunt, by rw [hd]; exact hreached⟩
    show Host.Outcome.next (serveUplink (huntDwellEnds s)) = _
    rw [huntDwellEnds, if_pos hexpired]
    exact congrArg _ (serveUplink_hunt _ hhunt)

/-! ### The timeouts -/

theorem linkNotices_mode (hunt : Bool) (s : State) :
    (linkNotices hunt s).pps.mode = if hunt then .retract else s.pps.mode := by
  rw [linkNotices, evaluateAndHand_eq]
  simp [linkNoticePlates]

/-- The notices speak of the blocks of the head, not of the port and its events. -/
theorem headNotified_of_sameHead {s u t : State} (hu : u = { s with ulp := u.ulp, rpu := u.rpu }) (h : HeadNotified u t) :
    HeadNotified s t := by
  rw [hu] at h
  exact h

/-- Settles O10. -/
theorem linkTimeoutsEnterLossAndHunt : Obligations.LinkTimeoutsEnterLossAndHunt := by
  unfold Obligations.LinkTimeoutsEnterLossAndHunt
  refine ⟨?loss, ?hunt⟩
  case loss =>
    intro s deadline hlink hd hreached
    obtain ⟨u, hu⟩ : ∃ u, u = post .linkLoss .link s.ulp.rate.val
        (s.setUlp
          { s.ulp with
            link := .loss
            linkDeadline := none
            relockDeadline := some (after s.headTime s.tst.active.link.relockTimeout) }) := ⟨_, rfl⟩
    have hexpired : s.ulp.link = .online ∧ expired s.ulp.linkDeadline s.headTime = true :=
      ⟨hlink, by rw [hd]; exact hreached⟩
    have hexec : exec .linkTimeout s = .next (serveUplink (linkNotices false u)) := by
      show Host.Outcome.next (serveUplink (linkExpiry s)) = _
      rw [linkExpiry, if_pos hexpired, hu]
    have hulp : u.ulp = { s.ulp with
        link := .loss, linkDeadline := none
        relockDeadline := some (s.headTime + BitVec.ofNat 32 s.tst.active.link.relockTimeout) } := by
      rw [hu]
      rfl
    have hpps : u.pps = s.pps := by rw [hu]; rfl
    have hpost : Posted s.headTime .linkLoss .link (s.ulp.rate.val : Int) s.rpu.events u.rpu.events := by
      rw [hu]
      exact postEntry_posted _ _ _ _ _
    have hrpu : u.rpu = { s.rpu with events := u.rpu.events } := by rw [hu]; rfl
    have hsame : u = { s with ulp := u.ulp, rpu := u.rpu } := by rw [hu]; rfl
    refine ⟨linkNotices false u, hexec, ?_⟩
    rw [linkNotices_ulp, linkNotices_rpu, linkNotices_mode]
    refine ⟨hulp, hpost, hrpu, by rw [hpps]; rfl, ?_⟩
    exact headNotified_of_sameHead hsame (linkNotices_notified false u (by rw [hulp]; simp))
  case hunt =>
    intro s deadline hlink hd hreached
    obtain ⟨u, hu⟩ : ∃ u : State, u =
        { s with
          ulp :=
            { s.ulp with
              link := .hunt
              relockDeadline := none
              rx := .waitStart
              lockRun := 0
              dwellDeadline := some (after s.headTime huntDwell)
              uplink := silencedUplink s.ulp }
          rpu := { s.rpu with statusDeadline := none } } := ⟨_, rfl⟩
    have hexpired : s.ulp.link = .loss ∧ expired s.ulp.relockDeadline s.headTime = true :=
      ⟨hlink, by rw [hd]; exact hreached⟩
    have hulink : u.ulp.link = .hunt := by rw [hu]
    have hsame : u = { s with ulp := u.ulp, rpu := u.rpu } := by rw [hu]
    have hexec : exec .relockTimeout s = .next (linkNotices true u) := by
      show Host.Outcome.next (serveUplink (relockExpiry s)) = _
      rw [relockExpiry, if_pos hexpired, serveUplink_hunt _ (by rw [linkNotices_ulp]; rfl), hu]
      rfl
    refine ⟨linkNotices true u, hexec, ?_⟩
    rw [linkNotices_ulp, linkNotices_rpu, linkNotices_mode]
    refine ⟨by rw [hu]; rfl, by rw [hu], rfl, ?_⟩
    exact headNotified_of_sameHead hsame (linkNotices_notified true u (by rw [hulink]; simp))

end Sys2Proof.Machine

namespace Sys2Proof.Machine

open Sys2Proof.Safety

/-! SUPPORT. What a CONTROL frame leaves, stage by stage: the fields, the depth, the station close (R2 to R8, R16 to R21,
R44, R176). -/

/-! ### Posts of given kinds -/

/-- Only events of the kinds named are posted between two queues: every other entry stays, and none comes. -/
def PostsOf (kinds : List EventKind) (a b : List EventEntry) : Prop :=
  ∀ e : EventEntry, e.kind ∉ kinds → (e ∈ a ↔ e ∈ b)

namespace PostsOf

variable {kinds : List EventKind} {a b c : List EventEntry}

theorem refl (kinds : List EventKind) (a : List EventEntry) : PostsOf kinds a a := fun _ _ => Iff.rfl

theorem of_eq (h : b = a) : PostsOf kinds a b := h ▸ refl kinds a

theorem trans (h : PostsOf kinds a b) (k : PostsOf kinds b c) : PostsOf kinds a c :=
  fun e he => (h e he).trans (k e he)

theorem mono {more : List EventKind} (h : PostsOf kinds a b) (hsub : kinds ⊆ more) : PostsOf more a b :=
  fun e he => h e fun hin => he (hsub hin)

theorem post {k : EventKind} (hk : k ∈ kinds) (now : HeadTime) (source : EventSource) (v : Int) :
    PostsOf kinds a (postEntry now k source v a) :=
  fun _ he => (postEntry_other fun h => he (h.1 ▸ hk)).symm

theorem nonePosted (h : PostsOf kinds a b) {k : EventKind} (hk : k ∉ kinds) (source : EventSource) :
    NonePosted k source a b :=
  fun e he _ => h e (he ▸ hk)

theorem waits (h : PostsOf kinds a b) {k : EventKind} (hk : k ∉ kinds) {now : HeadTime} {source : EventSource} {v : Int}
    (hw : Waits now k source v a) : Waits now k source v b := by
  obtain ⟨e, he, rfl, hrest⟩ := hw
  exact ⟨e, (h e hk).mp he, rfl, hrest⟩

end PostsOf

theorem nonePosted_trans {k : EventKind} {source : EventSource} {a b c : List EventEntry} (h : NonePosted k source a b)
    (h' : NonePosted k source b c) : NonePosted k source a c :=
  fun e hk hs => (h e hk hs).trans (h' e hk hs)

/-! ### The frame -/

/-- The state a CONTROL frame gives the depth to: the port after the frame, the link stage made and every other field
taken. -/
def controlTaken (f : ControlFields) (s : State) : State :=
  fieldsTaken f (controlLink { s with ulp := portAfterFrame s.ulp })

theorem exec_control (tag : Byte) (f : ControlFields) (s : State) (h : s.ulp.link ≠ .hunt) :
    exec (.control tag f) s
      = .next (serveUplink (decisionPass (evaluate (takeDepth f.depth.toNat (controlTaken f s))))) := by
  rw [exec_frame (by simp [frameOf]), takeFrame_eq _ s h]
  exact congrArg (fun t => Host.Outcome.next (serveUplink t)) (deliverControl_eq f { s with ulp := portAfterFrame s.ulp } h)

/-- The event queue after the link stage: LINK_RESTORED is posted in LOSS. -/
def returnEvents (s : State) : List EventEntry :=
  if s.ulp.link = .loss then postEntry s.headTime .linkRestored .link (s.ulp.rate.val : Int) s.rpu.events
  else s.rpu.events

theorem controlTaken_eq (f : ControlFields) (s : State) (h : s.ulp.link ≠ .hunt) :
    controlTaken f s
      = { s with
          nSet := min 400 f.nSet.toNat
          governorL := governorTaken s .left f.directionL f.enableL
          governorR := governorTaken s .right f.directionR f.enableR
          sru := pumpTaken s f.pumpSetpoint.toNat f.supplyDensity.toNat f.pumpEnable
          pps :=
            { s.pps with
              mode := modeTaken s.pps.mode f.mode
              manualTargets :=
                ⟨min 1000 f.manualP1.toNat, min 1000 f.manualP2.toNat, min 1000 f.manualP3.toNat,
                  min 1000 f.manualP4.toNat⟩ }
          spl := { s.spl with manualDelta := max (-100) (min 100 f.manualDelta.toInt) }
          ulp :=
            withClamped (clampedFields f)
              { portAfterFrame s.ulp with
                link := .online
                linkDeadline := some (s.headTime + BitVec.ofNat 32 s.tst.active.link.linkTimeout)
                relockDeadline := if s.ulp.link = .loss then none else s.ulp.relockDeadline }
          rpu := { s.rpu with events := returnEvents s } } := by
  unfold controlTaken
  rw [controlLink_eq]
  · rfl
  · exact h

section
variable (f : ControlFields) (s : State) (h : s.ulp.link ≠ .hunt)
include h

theorem controlTaken_headTime : (controlTaken f s).headTime = s.headTime := by rw [controlTaken_eq f s h]
theorem controlTaken_vtr : (controlTaken f s).vtr = s.vtr := by rw [controlTaken_eq f s h]
theorem controlTaken_tst : (controlTaken f s).tst = s.tst := by rw [controlTaken_eq f s h]
theorem controlTaken_link : (controlTaken f s).ulp.link = .online := by
  rw [controlTaken_eq f s h]
  rfl
theorem controlTaken_plates : (controlTaken f s).pps.plates = s.pps.plates := by rw [controlTaken_eq f s h]
theorem controlTaken_spl :
    (controlTaken f s).spl = { s.spl with manualDelta := max (-100) (min 100 f.manualDelta.toInt) } := by
  rw [controlTaken_eq f s h]
theorem controlTaken_sru :
    (controlTaken f s).sru = pumpTaken s f.pumpSetpoint.toNat f.supplyDensity.toNat f.pumpEnable := by
  rw [controlTaken_eq f s h]
theorem controlTaken_events : (controlTaken f s).rpu.events = returnEvents s := by rw [controlTaken_eq f s h]
theorem controlTaken_feedHold : (controlTaken f s).ulp.feedHold = s.ulp.feedHold := by
  rw [controlTaken_eq f s h]
  rfl
theorem controlTaken_left :
    (controlTaken f s).governor .left = governorTaken s .left f.directionL f.enableL := by
  rw [controlTaken_eq f s h]
  rfl
theorem controlTaken_right :
    (controlTaken f s).governor .right = governorTaken s .right f.directionR f.enableR := by
  rw [controlTaken_eq f s h]
  rfl

theorem depthTaken_controlTaken (v : Nat) : depthTaken (controlTaken f s) v ↔ depthTaken s v := by
  unfold depthTaken
  rw [controlTaken_vtr f s h, controlTaken_tst f s h]

end

theorem returnEvents_postsOf (s : State) : PostsOf [.linkRestored] s.rpu.events (returnEvents s) := by
  unfold returnEvents
  split
  · exact PostsOf.post List.mem_cons_self _ _ _
  · exact PostsOf.refl _ _

/-! ### The pump -/

/-- The Slurry Return Unit with the setpoint and the density of a CONTROL frame taken, and its enable. -/
def pumpSet (s : State) (setpoint density : Nat) (enable : Byte) : Sru :=
  { s.sru with
    setpoint := min 1000 setpoint
    supplyDensity := max 1000 (min 1400 density)
    duty :=
      if s.sru.pump = .prime ∨ s.sru.pump = .run then min (min 1000 setpoint) s.tst.active.slurry.pump.maxDuty
      else s.sru.duty
    lastEnable := decide (enable = 1#8) }

theorem pumpTaken_started {s : State} {setpoint density : Nat} {enable : Byte} (he : enable = 1#8)
    (hl : s.sru.lastEnable = false) (hp : s.sru.pump = .off) :
    pumpTaken s setpoint density enable
      = { pumpSet s setpoint density enable with
          pump := .prime
          duty := min (min 1000 setpoint) s.tst.active.slurry.pump.maxDuty
          primeDeadline := some (after s.headTime s.tst.active.slurry.pump.primeTime)
          dryDeadline := none } := by
  subst he
  simp [pumpTaken, pumpEnableTaken, densityTaken, setpointTaken, reformDuty_eq, pumpSet, hl, hp, enterPrime, pumpDuty]

theorem pumpTaken_kept {s : State} {setpoint density : Nat} {enable : Byte} (he : enable = 1#8)
    (h : s.sru.lastEnable = true ∨ s.sru.pump ≠ .off) :
    pumpTaken s setpoint density enable = pumpSet s setpoint density enable := by
  subst he
  rcases h with h | h <;>
    simp [pumpTaken, pumpEnableTaken, densityTaken, setpointTaken, reformDuty_eq, pumpSet, h]

theorem pumpTaken_stopped {s : State} {setpoint density : Nat} {enable : Byte} (he : enable ≠ 1#8)
    (h : s.sru.pump = .prime ∨ s.sru.pump = .run) :
    pumpTaken s setpoint density enable
      = { pumpSet s setpoint density enable with pump := .off, duty := 0, primeDeadline := none, dryDeadline := none } := by
  rcases h with h | h <;>
    simp [pumpTaken, pumpEnableTaken, densityTaken, setpointTaken, reformDuty_eq, pumpSet, h, he, enterPumpOff]

theorem pumpTaken_other {s : State} {setpoint density : Nat} {enable : Byte} (he : enable ≠ 1#8)
    (hprime : s.sru.pump ≠ .prime) (hrun : s.sru.pump ≠ .run) :
    pumpTaken s setpoint density enable
      = { pumpSet s setpoint density enable with
          prot :=
            { s.sru.prot with
              permit := if ∃ deadline, s.sru.pump = .trip (.timing deadline) then false else s.sru.prot.permit } } := by
  unfold pumpTaken pumpEnableTaken densityTaken setpointTaken pumpSet
  rw [reformDuty_eq]
  cases hp : s.sru.pump with
  | prime => exact absurd hp hprime
  | run => exact absurd hp hrun
  | trip phase => cases phase <;> simp [he, hp]
  | off | lockout => simp [he, hp]

/-- The pump's fields of a CONTROL frame leave the account, the level and the feed hold. -/
theorem pumpTaken_eq (s : State) (setpoint density : Nat) (enable : Byte) :
    pumpTaken s setpoint density enable
      = { s.sru with
          setpoint := min 1000 setpoint
          supplyDensity := max 1000 (min 1400 density)
          lastEnable := decide (enable = 1#8)
          pump := (pumpTaken s setpoint density enable).pump
          duty := (pumpTaken s setpoint density enable).duty
          primeDeadline := (pumpTaken s setpoint density enable).primeDeadline
          dryDeadline := (pumpTaken s setpoint density enable).dryDeadline
          prot := { s.sru.prot with permit := (pumpTaken s setpoint density enable).prot.permit } } := by
  by_cases he : enable = 1#8
  · by_cases h : s.sru.lastEnable = true ∨ s.sru.pump ≠ .off
    · rw [pumpTaken_kept he h]
      rfl
    · rw [not_or, not_not, Bool.not_eq_true] at h
      rw [pumpTaken_started he h.1 h.2]
      rfl
  · by_cases h : s.sru.pump = .prime ∨ s.sru.pump = .run
    · rw [pumpTaken_stopped he h]
      rfl
    · rw [not_or] at h
      rw [pumpTaken_other he h.1 h.2]
      rfl

/-! ### The drums -/

/-- A drum's governor with the direction of a CONTROL frame taken, and its enable. -/
def governorSet (s : State) (d : Drum) (direction enable : Byte) : Governor :=
  { s.governor d with
    requested :=
      if direction = 0#8 then .inward else if direction = 1#8 then .outward else (s.governor d).requested
    running :=
      if (s.governor d).state = .off ∧ direction = 0#8 then .inward
      else if (s.governor d).state = .off ∧ direction = 1#8 then .outward
      else (s.governor d).running
    lastEnable := decide (enable = 1#8) }

theorem directionTaken_eq (v : Byte) (g : Governor) :
    directionTaken v g
      = { g with
          requested := if v = 0#8 then .inward else if v = 1#8 then .outward else g.requested
          running :=
            if g.state = .off ∧ v = 0#8 then .inward
            else if g.state = .off ∧ v = 1#8 then .outward
            else g.running } := by
  have h0 : v = 0#8 ↔ v.toNat = 0 := BitVec.toNat_inj.symm
  have h1 : v = 1#8 ↔ v.toNat = 1 := BitVec.toNat_inj.symm
  simp only [h0, h1, directionTaken, directionOf]
  generalize v.toNat = n
  cases g with | mk state =>
  rcases n with _ | _ | n <;> by_cases hoff : state = .off <;> simp [hoff]

theorem governorTaken_started {s : State} {d : Drum} {direction enable : Byte} (he : enable = 1#8)
    (hl : (s.governor d).lastEnable = false) (ho : (s.governor d).state = .off) (ha : roleAlive (drumRole d) s = true) :
    governorTaken s d direction enable
      = { governorSet s d direction enable with
          state := .run, speed := 0, residue := 0, integrator := 0, prevUpdate := none } := by
  subst he
  simp [governorTaken, enableTaken, directionTaken_eq, governorSet, enterRun, hl, ho, ha]

theorem governorTaken_kept {s : State} {d : Drum} {direction enable : Byte} (he : enable = 1#8)
    (h : (s.governor d).lastEnable = true ∨ (s.governor d).state ≠ .off ∨ roleAlive (drumRole d) s = false) :
    governorTaken s d direction enable = governorSet s d direction enable := by
  subst he
  rcases h with h | h | h <;> simp [governorTaken, enableTaken, directionTaken_eq, governorSet, h]

theorem governorTaken_stopping {s : State} {d : Drum} {direction enable : Byte} (he : enable ≠ 1#8)
    (h : (s.governor d).state = .run) :
    governorTaken s d direction enable = { governorSet s d direction enable with state := .stopping } := by
  simp [governorTaken, enableTaken, directionTaken_eq, governorSet, h, he]

theorem governorTaken_withdrawn {s : State} {d : Drum} {direction enable : Byte} (he : enable ≠ 1#8)
    {deadline : HeadTime} (h : (s.governor d).state = .trip (.timing deadline)) :
    governorTaken s d direction enable
      = { governorSet s d direction enable with prot := { (s.governor d).prot with permit := false } } := by
  simp [governorTaken, enableTaken, directionTaken_eq, governorSet, h, he]

theorem governorTaken_other {s : State} {d : Drum} {direction enable : Byte} (he : enable ≠ 1#8)
    (hrun : (s.governor d).state ≠ .run) (htrip : ∀ deadline, (s.governor d).state ≠ .trip (.timing deadline)) :
    governorTaken s d direction enable = governorSet s d direction enable := by
  unfold governorTaken enableTaken governorSet
  rw [directionTaken_eq]
  cases hs : (s.governor d).state with
  | run => exact absurd hs hrun
  | trip phase =>
    cases phase with
    | timing deadline => exact absurd hs (htrip deadline)
    | waiting => simp [he, hs]
  | off | stopping | lockout | nofb => simp [he, hs]

/-- The requested direction and the enable of a governor after its fields. -/
theorem governorTaken_fields (s : State) (d : Drum) (direction enable : Byte) :
    (governorTaken s d direction enable).requested = (governorSet s d direction enable).requested
      ∧ (governorTaken s d direction enable).lastEnable = decide (enable = 1#8) := by
  by_cases he : enable = 1#8
  · by_cases h : (s.governor d).lastEnable = true ∨ (s.governor d).state ≠ .off ∨ roleAlive (drumRole d) s = false
    · rw [governorTaken_kept he h]
      exact ⟨rfl, rfl⟩
    · rw [not_or, not_or, not_not, Bool.not_eq_true, Bool.not_eq_false] at h
      rw [governorTaken_started he h.1 h.2.1 h.2.2]
      exact ⟨rfl, rfl⟩
  · by_cases hrun : (s.governor d).state = .run
    · rw [governorTaken_stopping he hrun]
      exact ⟨rfl, rfl⟩
    · by_cases htrip : ∃ deadline, (s.governor d).state = .trip (.timing deadline)
      · obtain ⟨deadline, htrip⟩ := htrip
        rw [governorTaken_withdrawn he htrip]
        exact ⟨rfl, rfl⟩
      · rw [governorTaken_other he hrun (fun deadline h => htrip ⟨deadline, h⟩)]
        exact ⟨rfl, rfl⟩

theorem modeTaken_eq (old : Mode) (v : Byte) :
    modeTaken old v = if v = 0#8 then .retract else if v = 1#8 then .auto else if v = 2#8 then .manual else old := by
  have h0 : v = 0#8 ↔ v.toNat = 0 := BitVec.toNat_inj.symm
  have h1 : v = 1#8 ↔ v.toNat = 1 := BitVec.toNat_inj.symm
  have h2 : v = 2#8 ↔ v.toNat = 2 := BitVec.toNat_inj.symm
  simp only [h0, h1, h2, modeTaken]
  generalize v.toNat = n
  rcases n with _ | _ | _ | n <;> simp

/-! ### The depth -/

theorem takeDepth_refused {s : State} {v : Nat} (h : ¬depthTaken s v) : takeDepth v s = rejectDepth v s := by
  rw [takeDepth, if_neg (by rwa [depthAccepted_iff])]

theorem takeDepth_noPanel {s : State} {v : Nat} (h : depthTaken s v) (hp : s.vtr.state = .noPanel) :
    takeDepth v s = s.setVtr { s.vtr with depth := some v, candidate := none } := by
  rw [takeDepth, if_pos ((depthAccepted_iff s v).mpr h), acceptDepth, if_pos hp]

/-- The tracker of an open panel with a depth taken, its face not yet advanced. -/
def depthPlaced (v : Nat) (s : State) : State :=
  s.setVtr
    { s.vtr with depth := some v, candidate := none, state := depthState s.tst.active.mounting.params s.vtr.dFace v }

theorem takeDepth_above {s : State} {v : Nat} (h : depthTaken s v) (hp : s.vtr.state ≠ .noPanel)
    (hv : v ≤ s.vtr.dFace) : takeDepth v s = depthPlaced v s := by
  rw [takeDepth, if_pos ((depthAccepted_iff s v).mpr h), acceptDepth, if_neg hp]
  exact if_neg (by omega)

theorem depthState_below (m : MountingParams) {dFace v : Nat} (h : dFace < v) : depthState m dFace v = .advancing := by
  rw [depthState_eq, if_pos (by omega)]

theorem takeDepth_below {s : State} {v : Nat} (h : depthTaken s v) (hp : s.vtr.state ≠ .noPanel)
    (hv : s.vtr.dFace < v) : takeDepth v s = advanceFace v (depthPlaced v s) := by
  rw [takeDepth, if_pos ((depthAccepted_iff s v).mpr h), acceptDepth, if_neg hp]
  exact if_pos ⟨depthState_below _ hv, hv⟩

theorem closeTest_vtr (d : Nat) (s : State) :
    (closeTest d s).vtr
      = { s.vtr with
          log := (closeTest d s).vtr.log
          accA := (closeTest d s).vtr.accA
          accB := (closeTest d s).vtr.accB
          saturated := (closeTest d s).vtr.saturated
          logFullArmed := (closeTest d s).vtr.logFullArmed } := by
  unfold closeTest
  split
  · rfl
  · split
    · split
      · simp [closeStation, clearOpen]
      · unfold refuseClose
        split <;> rfl
    · rfl

theorem depthPlaced_vtr (v : Nat) (s : State) :
    (depthPlaced v s).vtr
      = { s.vtr with
          depth := some v
          candidate := none
          state := depthState s.tst.active.mounting.params s.vtr.dFace v } := rfl

theorem advanceFace_vtr (d : Nat) (s : State) :
    (advanceFace d s).vtr
      = { s.vtr with
          dFace := d
          log := (advanceFace d s).vtr.log
          accA := (advanceFace d s).vtr.accA
          accB := (advanceFace d s).vtr.accB
          saturated := (advanceFace d s).vtr.saturated
          logFullArmed := (advanceFace d s).vtr.logFullArmed } := by
  have h := closeTest_vtr d (cutTerm (d - s.vtr.dFace) (s.setVtr { s.vtr with dFace := d }))
  rw [cutTerm_vtr] at h
  exact h

/-- A depth that is taken becomes the depth, and no candidate stands. -/
theorem takeDepth_taken {s : State} {v : Nat} (h : depthTaken s v) :
    (takeDepth v s).vtr.depth = some v ∧ (takeDepth v s).vtr.candidate = none := by
  by_cases hp : s.vtr.state = .noPanel
  · rw [takeDepth_noPanel h hp]
    exact ⟨rfl, rfl⟩
  · by_cases hv : s.vtr.dFace < v
    · rw [takeDepth_below h hp hv, advanceFace_vtr, depthPlaced_vtr]
      exact ⟨rfl, rfl⟩
    · rw [takeDepth_above h hp (by omega), depthPlaced_vtr]
      exact ⟨rfl, rfl⟩

/-! ### Events of the depth -/

theorem postDisagree_postsOf (m : MountingParams) (v : Vtr) (axis : Axis) (s : State) :
    PostsOf [.inclDisagree] s.rpu.events (postDisagree m v axis s).rpu.events := by
  unfold postDisagree
  split
  · exact PostsOf.post List.mem_cons_self _ _ _
  · exact PostsOf.refl _ _

theorem toleranceTest_postsOf (s : State) : PostsOf [.tolerance] s.rpu.events (toleranceTest s).rpu.events := by
  unfold toleranceTest
  simp only
  split <;> split
  · exact (PostsOf.post List.mem_cons_self _ _ _).trans (PostsOf.post List.mem_cons_self _ _ _)
  · exact PostsOf.post List.mem_cons_self _ _ _
  · exact PostsOf.post List.mem_cons_self _ _ _
  · exact PostsOf.refl _ _

theorem closeTest_postsOf (d : Nat) (s : State) :
    PostsOf [.inclDisagree, .tolerance, .logFull] s.rpu.events (closeTest d s).rpu.events := by
  unfold closeTest
  split
  · exact PostsOf.refl _ _
  · split
    · split
      · unfold closeStation
        simp only [evaluate_rpu]
        refine PostsOf.trans (PostsOf.mono ?_ (by simp : [EventKind.inclDisagree] ⊆ _))
          ((toleranceTest_postsOf _).mono (by simp))
        exact ((postDisagree_postsOf _ _ .x _).trans (postDisagree_postsOf _ _ .y _)).trans (postDisagree_postsOf _ _ .twist _)
      · unfold refuseClose
        split
        · exact PostsOf.post (by simp) _ _ _
        · exact PostsOf.refl _ _
    · exact PostsOf.refl _ _

theorem cutTerm_postsOf (n : Nat) (s : State) : PostsOf [.level] s.rpu.events (cutTerm n s).rpu.events := by
  unfold cutTerm
  simp only [accountUpdate_rpu]
  split
  · exact PostsOf.refl _ _
  · exact PostsOf.post List.mem_cons_self _ _ _

theorem advanceFace_postsOf (d : Nat) (s : State) :
    PostsOf [.level, .inclDisagree, .tolerance, .logFull] s.rpu.events (advanceFace d s).rpu.events := by
  unfold advanceFace
  obtain ⟨t, ht⟩ : ∃ t, t = cutTerm (d - s.vtr.dFace) (s.setVtr { s.vtr with dFace := d }) := ⟨_, rfl⟩
  have hcut := cutTerm_postsOf (d - s.vtr.dFace) (s.setVtr { s.vtr with dFace := d })
  rw [← ht, State.setVtr_rpu] at hcut
  rw [← ht]
  exact (hcut.mono (by simp)).trans ((closeTest_postsOf d t).mono (by simp))

theorem takeDepth_postsOf (v : Nat) (s : State) :
    PostsOf [.depthJump, .level, .inclDisagree, .tolerance, .logFull] s.rpu.events (takeDepth v s).rpu.events := by
  by_cases hv : depthTaken s v
  · by_cases hp : s.vtr.state = .noPanel
    · rw [takeDepth_noPanel hv hp]
      exact PostsOf.refl _ _
    · by_cases hbelow : s.vtr.dFace < v
      · rw [takeDepth_below hv hp hbelow]
        exact (advanceFace_postsOf v (depthPlaced v s)).mono (by simp)
      · rw [takeDepth_above hv hp (by omega)]
        exact PostsOf.refl _ _
  · rw [takeDepth_refused hv]
    exact PostsOf.post (by simp) _ _ _

/-! ### The obligations about the fields -/

/-- Settles O24: the fields of the state that gets the depth, kept by the depth, the evaluation and the pass. -/
theorem controlTakesFields : Obligations.ControlTakesFields := by
  unfold Obligations.ControlTakesFields
  intro tag f s h
  obtain ⟨u, hu⟩ : ∃ u, u = controlTaken f s := ⟨_, rfl⟩
  obtain ⟨w, hw⟩ : ∃ w, w = takeDepth f.depth.toNat u := ⟨_, rfl⟩
  have heq := controlTaken_eq f s h
  rw [← hu] at heq
  obtain ⟨hsru, hulp, hspl, hrpu⟩ := takeDepth_keeps f.depth.toNat u
  have hposts := takeDepth_postsOf f.depth.toNat u
  have hvtr : u.vtr = s.vtr := by rw [heq]
  have htaken : depthTaken u f.depth.toNat ↔ depthTaken s f.depth.toNat := hu ▸ depthTaken_controlTaken f s h _
  rw [← hw] at hsru hulp hspl hrpu hposts
  have hgov : ∀ d, w.governor d = u.governor d := fun d => by rw [hw, takeDepth_governor]
  have hpps : w.pps = u.pps := by rw [hw, takeDepth_pps]
  refine ⟨decisionPass (evaluate w), by rw [exec_control tag f s h, hw, hu], ?_⟩
  have hmode : (decisionPass (evaluate w)).pps.mode = w.pps.mode := rfl
  have hmanual : (decisionPass (evaluate w)).pps.manualTargets = w.pps.manualTargets := rfl
  have hdelta : (evaluate w).spl.manualDelta = w.spl.manualDelta := by
    rw [(DepthKeeps.evaluate w).2.2.1]
  rw [hmode, hmanual, hpps]
  simp only [decisionPass_ulp, decisionPass_rpu, decisionPass_nSet, decisionPass_sru, decisionPass_governorL,
    decisionPass_governorR, decisionPass_governor, decisionPass_spl, decisionPass_vtr, decisionPass_tst, decisionPass_sbm,
    decisionPass_headTime, decisionPass_freeSeq, decisionPass_pending, evaluate_ulp, evaluate_rpu, evaluate_nSet,
    evaluate_sru, evaluate_governorL, evaluate_governorR, evaluate_governor, evaluate_vtr, evaluate_tst, evaluate_sbm,
    evaluate_headTime, evaluate_freeSeq, evaluate_pending, hdelta]
  refine ⟨?ulp, ?restored, ?nSet, ?setpoint, ?density, ?enable, ?enableL, ?enableR, ?mode, ?targets, ?delta, ?requested,
    ?taken, ?refused, ?tst, ?sbm, ?time, ?seq, ?pending, ?rpu⟩
  case ulp =>
    refine hulp.trans ?_
    rw [heq]
    rfl
  case restored =>
    intro hloss
    refine hposts.waits (by simp) ?_
    rw [heq]
    simp only [returnEvents, if_pos hloss]
    exact postEntry_waits _ _ _ _ _
  case nSet => rw [hw, takeDepth_nSet, heq]
  case setpoint => rw [hsru, heq, pumpTaken_eq]
  case density => rw [hsru, heq, pumpTaken_eq]
  case enable => rw [hsru, heq, pumpTaken_eq]
  case enableL =>
    rw [hw, takeDepth_governorL, heq]
    exact (governorTaken_fields s .left f.directionL f.enableL).2
  case enableR =>
    rw [hw, takeDepth_governorR, heq]
    exact (governorTaken_fields s .right f.directionR f.enableR).2
  case mode =>
    rw [heq]
    exact modeTaken_eq _ _
  case targets => rw [heq]
  case delta => rw [hspl, heq]
  case requested =>
    rintro d v rfl
    rw [hgov, hu]
    cases d with
    | left =>
      rw [controlTaken_left f s h]
      exact (governorTaken_fields s .left _ _).1
    | right =>
      rw [controlTaken_right f s h]
      exact (governorTaken_fields s .right _ _).1
  case taken =>
    intro hv
    rw [hw]
    exact takeDepth_taken (htaken.mpr hv)
  case refused =>
    intro hv
    rw [hw, takeDepth_refused (fun hc => hv (htaken.mp hc)), ← hvtr]
    exact ⟨rfl, rfl⟩
  case tst => rw [hw, takeDepth_tst, heq]
  case sbm => rw [hw, takeDepth_sbm, heq]
  case time => rw [hw, takeDepth_headTime, heq]
  case seq => rw [hw, takeDepth_freeSeq, heq]
  case pending => rw [hw, takeDepth_pending, heq]
  case rpu =>
    refine hrpu.trans ?_
    rw [heq]

/-- Settles O25: the governor after its fields, which the depth and the evaluation leave. -/
theorem controlStartsAndStopsDrums : Obligations.ControlStartsAndStopsDrums := by
  unfold Obligations.ControlStartsAndStopsDrums
  intro tag f d direction enable s h hdirection henable g hg
  have hset : g = governorSet s d direction enable := hg
  have hgov : (controlTaken f s).governor d = governorTaken s d direction enable := by
    subst hdirection henable
    cases d with
    | left => exact controlTaken_left f s h
    | right => exact controlTaken_right f s h
  refine ⟨_, exec_control tag f s h, ?_⟩
  rw [decisionPass_governor, evaluate_governor, takeDepth_governor, hgov, hset]
  refine ⟨fun he hl ho ha => governorTaken_started he hl ho ha, fun he hk => governorTaken_kept he hk, fun he => ?_⟩
  exact ⟨fun hrun => governorTaken_stopping he hrun, fun deadline hd => governorTaken_withdrawn he hd,
    fun hrun htrip => governorTaken_other he hrun htrip⟩

/-- Settles O26: the pump after its fields, which the depth leaves but for the account, the level and the hold. -/
theorem controlStartsAndStopsPump : Obligations.ControlStartsAndStopsPump := by
  unfold Obligations.ControlStartsAndStopsPump
  intro tag f s h
  refine ⟨_, exec_control tag f s h, ?_⟩
  rw [decisionPass_sru, evaluate_sru, (takeDepth_keeps f.depth.toNat (controlTaken f s)).1, controlTaken_sru f s h]
  refine ⟨?_, ?_, ?_, ?_, ?_, ?_, ?_⟩
  · rw [pumpTaken_eq]
  · rw [pumpTaken_eq]
  · rw [pumpTaken_eq]
  · rw [pumpTaken_eq]
  · intro he hl hp
    rw [pumpTaken_started he hl hp]
    exact ⟨rfl, rfl, rfl, rfl, rfl⟩
  · intro he hk
    rw [pumpTaken_kept he hk]
    exact ⟨rfl, rfl, rfl, rfl, rfl⟩
  · intro he
    refine ⟨fun hd => ?_, fun hprime hrun => ?_⟩
    · rw [pumpTaken_stopped he hd]
      exact ⟨rfl, rfl, rfl, rfl, rfl⟩
    · rw [pumpTaken_other he hprime hrun]
      refine ⟨rfl, ?_, rfl, rfl, rfl⟩
      exact if_neg (not_or.mpr ⟨hprime, hrun⟩)

/-! ### The planner and the plates -/

/-- An evaluation overwrites every output, so it stands alike from the planner before the outputs were last formed. -/
theorem Evaluated.of_outputs {t : SteeringTable} {mode : EffectiveMode} {v : VtrState} {e : SteeringErrors} {p p' q : Spl}
    (hp : p' = { p with deltaN := p'.deltaN, targets := p'.targets, lastErrors := p'.lastErrors })
    (h : Evaluated t mode v e p' q) : Evaluated t mode v e p q := by
  obtain ⟨hauto, hmanual, hzero⟩ := h
  refine ⟨fun hm hv => ?_, fun hm => ?_, fun hm => ?_⟩
  · rw [hauto hm hv, hp]
  · rw [hmanual hm, hp]
  · rw [hzero hm, hp]

/-- Settles O30. -/
theorem controlEvaluatesAndDecides : Obligations.ControlEvaluatesAndDecides := by
  unfold Obligations.ControlEvaluatesAndDecides
  intro tag f s h
  obtain ⟨w, hw⟩ : ∃ w, w = takeDepth f.depth.toNat (controlTaken f s) := ⟨_, rfl⟩
  have htst : w.tst = s.tst := by rw [hw, takeDepth_tst, controlTaken_tst f s h]
  have htime : w.headTime = s.headTime := by rw [hw, takeDepth_headTime, controlTaken_headTime f s h]
  have hlink : w.ulp.link = .online := by
    rw [hw, (takeDepth_keeps _ _).2.1, ← controlTaken_link f s h]
  have hplates : w.pps.plates = s.pps.plates := by rw [hw, takeDepth_pps, controlTaken_plates f s h]
  have hspl := (takeDepth_keeps f.depth.toNat (controlTaken f s)).2.2.1
  rw [← hw, controlTaken_spl f s h] at hspl
  have hmode : (decisionPass (evaluate w)).pps.mode = w.pps.mode := rfl
  have hmanual : (decisionPass (evaluate w)).pps.manualTargets = w.pps.manualTargets := rfl
  refine ⟨decisionPass (evaluate w), by rw [exec_control tag f s h, hw], ?_, fun id => ?_⟩
  · have hev := evaluate_spl w
    unfold effectiveMode at hev
    rw [if_pos (by simp [online, hlink]), htst] at hev
    rw [decisionPass_spl, decisionPass_vtr, evaluate_vtr, hmode]
    exact Evaluated.of_outputs hspl hev
  · have hd := decisionPass_decided (evaluate w) hlink id
    rw [evaluate_headTime, evaluate_tst, evaluate_pps, htst, htime, hplates] at hd
    rw [hmode, hmanual, decisionPass_spl]
    exact hd

end Sys2Proof.Machine

namespace Sys2Proof.Machine

open Sys2Proof.Safety

/-! SUPPORT. A depth below the face: the face advance, the account, and the close test (R7, R8, R16 to R21, R44, R107). -/

/-! ### The depth at and above the face -/

/-- The queue that holds the return to ONLINE is the one of the link stage. -/
theorem returnEvents_unique {s : State} {posted : List EventEntry} (h : s.ulp.link ≠ .hunt)
    (honline : s.ulp.link = .online → posted = s.rpu.events)
    (hloss : s.ulp.link = .loss → Posted s.headTime .linkRestored .link (s.ulp.rate.val : Int) s.rpu.events posted) :
    returnEvents s = posted := by
  cases hl : s.ulp.link with
  | hunt => exact absurd hl h
  | online => rw [returnEvents, if_neg (by simp [hl]), honline hl]
  | loss => rw [returnEvents, if_pos hl, posted_eq (hloss hl)]

theorem controlTaken_unit (f : ControlFields) (s : State) (h : s.ulp.link ≠ .hunt) :
    (controlTaken f s).sru.account = s.sru.account ∧ (controlTaken f s).sru.residueC = s.sru.residueC
      ∧ (controlTaken f s).sru.level = s.sru.level ∧ (controlTaken f s).sru.held = s.sru.held
      ∧ (controlTaken f s).sru.refreshDeadline = s.sru.refreshDeadline := by
  rw [controlTaken_sru f s h, pumpTaken_eq]
  exact ⟨rfl, rfl, rfl, rfl, rfl⟩

/-- Settles O27. -/
theorem controlTakesDepth : Obligations.ControlTakesDepth := by
  unfold Obligations.ControlTakesDepth
  intro tag f posted s h honline hloss
  obtain ⟨u, hu⟩ : ∃ u, u = controlTaken f s := ⟨_, rfl⟩
  have hposted : u.rpu.events = posted := by
    rw [hu, controlTaken_events f s h, returnEvents_unique h honline hloss]
  have hvtr : u.vtr = s.vtr := by rw [hu, controlTaken_vtr f s h]
  have htst : u.tst = s.tst := by rw [hu, controlTaken_tst f s h]
  have htime : u.headTime = s.headTime := by rw [hu, controlTaken_headTime f s h]
  have hhold : u.ulp.feedHold = s.ulp.feedHold := by rw [hu, controlTaken_feedHold f s h]
  obtain ⟨haccount, -, hlevel, -, -⟩ := controlTaken_unit f s h
  rw [← hu] at haccount hlevel
  have htaken : depthTaken u f.depth.toNat ↔ depthTaken s f.depth.toNat := hu ▸ depthTaken_controlTaken f s h _
  have hexec := exec_control tag f s h
  rw [← hu] at hexec
  refine ⟨fun hv => ?_, fun hv hface => ?_⟩
  · rw [takeDepth_refused (fun hc => hv (htaken.mp hc))] at hexec
    refine ⟨_, hexec, ?_⟩
    rw [decisionPass_vtr, decisionPass_rpu, decisionPass_sru, decisionPass_ulp, evaluate_vtr, evaluate_rpu, evaluate_sru,
      evaluate_ulp, ← hvtr, ← hposted, ← htime, ← haccount, ← hlevel, ← hhold]
    exact ⟨rfl, postEntry_posted _ _ _ _ _, rfl, rfl, rfl⟩
  · by_cases hp : s.vtr.state = .noPanel
    · rw [takeDepth_noPanel (htaken.mpr hv) (by rw [hvtr, hp])] at hexec
      refine ⟨_, hexec, ?_⟩
      rw [decisionPass_vtr, decisionPass_rpu, decisionPass_sru, decisionPass_ulp, evaluate_vtr, evaluate_rpu, evaluate_sru,
        evaluate_ulp, ← hposted, ← haccount, ← hlevel, ← hhold, if_pos hp, ← hvtr]
      refine ⟨?_, rfl, rfl, rfl, rfl⟩
      rw [← hvtr] at hp
      rw [State.setVtr_vtr, ← hp]
    · have hdepth := hface.resolve_left hp
      rw [takeDepth_above (htaken.mpr hv) (by rwa [hvtr]) (by rwa [hvtr])] at hexec
      refine ⟨_, hexec, ?_⟩
      rw [decisionPass_vtr, decisionPass_rpu, decisionPass_sru, decisionPass_ulp, evaluate_vtr, evaluate_rpu, evaluate_sru,
        evaluate_ulp, ← hposted, ← haccount, ← hlevel, ← hhold, if_neg hp, ← depthState_eq, ← hvtr, ← htst]
      exact ⟨rfl, rfl, rfl, rfl, rfl⟩

/-! ### The face advance -/

/-- The ground cut by an advance of the face, with the residue (R107). -/
def cutGround (advance : Nat) (s : State) : Nat :=
  advance * s.tst.active.slurry.ground.panelLength * s.tst.active.slurry.ground.panelWidth + s.sru.residueC

/-- The state the close test of an advance is made in: the depth placed, the face at it and the cut ground counted. -/
def faceAdvanced (v : Nat) (s : State) : State :=
  cutTerm (v - s.vtr.dFace) ((depthPlaced v s).setVtr { (depthPlaced v s).vtr with dFace := v })

theorem advanceFace_depthPlaced (v : Nat) (s : State) :
    advanceFace v (depthPlaced v s) = closeTest v (faceAdvanced v s) := rfl

theorem faceAdvanced_vtr {v : Nat} {s : State} (h : s.vtr.dFace < v) :
    (faceAdvanced v s).vtr
      = { s.vtr with depth := some v, candidate := none, state := .advancing, dFace := v } := by
  rw [faceAdvanced, cutTerm_vtr, ← depthState_below s.tst.active.mounting.params h]
  rfl

theorem faceAdvanced_tst (v : Nat) (s : State) : (faceAdvanced v s).tst = s.tst := by
  rw [faceAdvanced, cutTerm_tst]
  rfl

theorem faceAdvanced_headTime (v : Nat) (s : State) : (faceAdvanced v s).headTime = s.headTime := by
  rw [faceAdvanced, cutTerm_headTime]
  rfl

/-- What the hold test looks at. -/
theorem holdTested_congr {s t : State} {level : Nat} {held : Bool} {refresh : Option HeadTime} {frame : Option Nat}
    (hlevels : t.tst.active.slurry.levels = s.tst.active.slurry.levels) (htime : t.headTime = s.headTime)
    (hheld : t.sru.held = s.sru.held) (hrefresh : t.sru.refreshDeadline = s.sru.refreshDeadline)
    (hframe : t.ulp.feedHold = s.ulp.feedHold) (h : HoldTested t level held refresh frame) :
    HoldTested s level held refresh frame := by
  unfold HoldTested at h ⊢
  rw [hlevels, htime, hheld, hrefresh, hframe] at h
  exact h

/-- The account, the level and the hold after the cut ground is counted. -/
theorem faceAdvanced_unit (v : Nat) (s : State) :
    (faceAdvanced v s).sru.account
        = min (s.sru.account + cutGround (v - s.vtr.dFace) s / 1000) s.tst.active.slurry.ground.accountMax
      ∧ (faceAdvanced v s).sru.residueC = cutGround (v - s.vtr.dFace) s % 1000
      ∧ (faceAdvanced v s).sru.level
          = levelAfter s.tst.active.slurry.levels (faceAdvanced v s).sru.account s.sru.level
      ∧ HoldTested s (faceAdvanced v s).sru.level (faceAdvanced v s).sru.held (faceAdvanced v s).sru.refreshDeadline
          (faceAdvanced v s).ulp.feedHold
      ∧ (faceAdvanced v s).rpu.events
          = (if (faceAdvanced v s).sru.level = s.sru.level then s.rpu.events
              else postEntry s.headTime .level .sru (faceAdvanced v s).sru.level s.rpu.events) := by
  obtain ⟨q, hq⟩ : ∃ q : State, q = ((depthPlaced v s).setVtr { (depthPlaced v s).vtr with dFace := v }).setSru
      { s.sru with residueC := cutGround (v - s.vtr.dFace) s % 1000 } := ⟨_, rfl⟩
  have hface : faceAdvanced v s = accountUpdate (cutGround (v - s.vtr.dFace) s / 1000) 0 q := by rw [hq]; rfl
  have htst : q.tst = s.tst := by rw [hq]; rfl
  have hsru : q.sru = { s.sru with residueC := cutGround (v - s.vtr.dFace) s % 1000 } := by rw [hq]; rfl
  have haccount : (faceAdvanced v s).sru.account
      = min (s.sru.account + cutGround (v - s.vtr.dFace) s / 1000) s.tst.active.slurry.ground.accountMax := by
    rw [hface, accountUpdate_sru, accountAfter, hsru, htst, Nat.sub_zero]
  have hlevel : (faceAdvanced v s).sru.level = updatedLevel (cutGround (v - s.vtr.dFace) s / 1000) 0 q := by
    rw [hface, accountUpdate_sru]
  have hupdated : updatedLevel (cutGround (v - s.vtr.dFace) s / 1000) 0 q
      = levelAfter s.tst.active.slurry.levels (faceAdvanced v s).sru.account s.sru.level := by
    rw [haccount, updatedLevel, accountAfter, hsru, htst, Nat.sub_zero]
  refine ⟨haccount, by rw [hface, accountUpdate_sru, hsru], by rw [hlevel, hupdated], ?_, ?_⟩
  · rw [hlevel, hface]
    exact holdTested_congr (by rw [htst]) (by rw [hq]; rfl) (by rw [hsru]) (by rw [hsru]) (by rw [hq]; rfl)
      (accountUpdate_tested _ _ _)
  · rw [hlevel, hface, accountUpdate_rpu, hsru]
    rw [hq]
    rfl

/-! ### The close test -/

section
variable {s : State} {r : StationRecord} {d : Nat} (hr : s.vtr.log.getLast? = some r)
include hr

theorem closeTest_early (h : d < r.depth + s.tst.active.mounting.params.stationInterval) : closeTest d s = s := by
  unfold closeTest
  rw [hr]
  exact if_neg (by omega)

theorem closeTest_full (h : r.depth + s.tst.active.mounting.params.stationInterval ≤ d) (hfull : 1024 ≤ s.vtr.log.length) :
    closeTest d s = refuseClose d s := by
  unfold closeTest
  rw [hr]
  exact (if_pos h).trans (if_neg (by simpa [logCapacity] using hfull))

theorem closeTest_closes (h : r.depth + s.tst.active.mounting.params.stationInterval ≤ d) (hroom : s.vtr.log.length < 1024) :
    closeTest d s = closeStation r d s := by
  unfold closeTest
  rw [hr]
  exact (if_pos h).trans (if_pos hroom)

end

theorem refuseClose_armed {s : State} (h : s.vtr.logFullArmed = true) (d : Nat) :
    refuseClose d s = post .logFull .vtr d (s.setVtr { s.vtr with logFullArmed := false }) := if_pos h

theorem refuseClose_notArmed {s : State} (h : s.vtr.logFullArmed = false) (d : Nat) : refuseClose d s = s :=
  if_neg (by simp [h])

/-- A close refused leaves the log and the open accumulators, and disarms LOG_FULL. -/
theorem refuseClose_vtr (d : Nat) (s : State) : (refuseClose d s).vtr = { s.vtr with logFullArmed := false } := by
  cases h : s.vtr.logFullArmed with
  | true =>
    rw [refuseClose_armed h]
    rfl
  | false => rw [refuseClose_notArmed h, ← h]

/-! ### A CONTROL frame with a depth below the face -/

/-- The state a CONTROL frame makes its close test in, its depth below the face. -/
def controlAdvanced (f : ControlFields) (s : State) : State := faceAdvanced f.depth.toNat (controlTaken f s)

section
variable {f : ControlFields} {s : State} (h : s.ulp.link ≠ .hunt)
include h

theorem exec_control_below (tag : Byte) (hv : depthTaken s f.depth.toNat) (hp : s.vtr.state ≠ .noPanel)
    (hbelow : s.vtr.dFace < f.depth.toNat) :
    exec (.control tag f) s
      = .next (serveUplink (decisionPass (evaluate (closeTest f.depth.toNat (controlAdvanced f s))))) := by
  rw [exec_control tag f s h, takeDepth_below ((depthTaken_controlTaken f s h _).mpr hv)
    (by rwa [controlTaken_vtr f s h]) (by rwa [controlTaken_vtr f s h]), advanceFace_depthPlaced, controlAdvanced]

theorem controlAdvanced_vtr (hbelow : s.vtr.dFace < f.depth.toNat) :
    (controlAdvanced f s).vtr
      = { s.vtr with depth := some f.depth.toNat, candidate := none, state := .advancing, dFace := f.depth.toNat } := by
  rw [controlAdvanced, faceAdvanced_vtr (by rwa [controlTaken_vtr f s h]), controlTaken_vtr f s h]

theorem controlAdvanced_tst : (controlAdvanced f s).tst = s.tst := by
  rw [controlAdvanced, faceAdvanced_tst, controlTaken_tst f s h]

theorem controlAdvanced_headTime : (controlAdvanced f s).headTime = s.headTime := by
  rw [controlAdvanced, faceAdvanced_headTime, controlTaken_headTime f s h]

/-- The account, the level, the hold and the events once the cut ground is counted. -/
theorem controlAdvanced_unit :
    (controlAdvanced f s).sru.account
        = min (s.sru.account + cutGround (f.depth.toNat - s.vtr.dFace) s / 1000) s.tst.active.slurry.ground.accountMax
      ∧ (controlAdvanced f s).sru.residueC = cutGround (f.depth.toNat - s.vtr.dFace) s % 1000
      ∧ (controlAdvanced f s).sru.level
          = levelAfter s.tst.active.slurry.levels (controlAdvanced f s).sru.account s.sru.level
      ∧ HoldTested s (controlAdvanced f s).sru.level (controlAdvanced f s).sru.held
          (controlAdvanced f s).sru.refreshDeadline (controlAdvanced f s).ulp.feedHold
      ∧ (controlAdvanced f s).rpu.events
          = (if (controlAdvanced f s).sru.level = s.sru.level then returnEvents s
              else postEntry s.headTime .level .sru (controlAdvanced f s).sru.level (returnEvents s)) := by
  obtain ⟨u, hu⟩ : ∃ u, u = controlTaken f s := ⟨_, rfl⟩
  have hvtr : u.vtr = s.vtr := by rw [hu, controlTaken_vtr f s h]
  have htst : u.tst = s.tst := by rw [hu, controlTaken_tst f s h]
  have htime : u.headTime = s.headTime := by rw [hu, controlTaken_headTime f s h]
  have hhold : u.ulp.feedHold = s.ulp.feedHold := by rw [hu, controlTaken_feedHold f s h]
  have hevents : u.rpu.events = returnEvents s := by rw [hu, controlTaken_events f s h]
  obtain ⟨haccount, hresidue, hlevel, hheld, hrefresh⟩ := controlTaken_unit f s h
  rw [← hu] at haccount hresidue hlevel hheld hrefresh
  have hground : cutGround (f.depth.toNat - u.vtr.dFace) u = cutGround (f.depth.toNat - s.vtr.dFace) s := by
    rw [cutGround, hvtr, htst, hresidue, cutGround]
  obtain ⟨haccount', hresidue', hlevel', htested, hevents'⟩ := faceAdvanced_unit f.depth.toNat u
  rw [controlAdvanced, ← hu]
  rw [hground, haccount, htst] at haccount'
  rw [hground] at hresidue'
  rw [htst, hlevel] at hlevel'
  rw [htime, hevents, hlevel] at hevents'
  exact ⟨haccount', hresidue', hlevel', holdTested_congr (by rw [htst]) htime hheld hrefresh hhold htested, hevents'⟩

/-- Up to the close test the frame posts LINK_RESTORED and LEVEL only. -/
theorem controlAdvanced_postsOf : PostsOf [.linkRestored, .level] s.rpu.events (controlAdvanced f s).rpu.events := by
  have hpre := returnEvents_postsOf s
  obtain ⟨-, -, -, -, hevents⟩ := controlAdvanced_unit (f := f) h
  rw [hevents]
  split
  · exact hpre.mono (by simp)
  · exact (hpre.mono (by simp)).trans (PostsOf.post (by simp) _ _ _)

end

/-- Settles O28. -/
theorem controlAdvancesFace : Obligations.ControlAdvancesFace := by
  unfold Obligations.ControlAdvancesFace
  intro tag f r cut s h hv hp hbelow hr hcut
  obtain ⟨c, hc⟩ : ∃ c, c = controlAdvanced f s := ⟨_, rfl⟩
  have hground : cutGround (f.depth.toNat - s.vtr.dFace) s = cut := by rw [cutGround, hcut]
  obtain ⟨haccount, hresidue, hlevel, hheld, hevents⟩ := controlAdvanced_unit (f := f) h
  have hvtr := controlAdvanced_vtr h hbelow
  have htst := controlAdvanced_tst (f := f) h
  have htime := controlAdvanced_headTime (f := f) h
  have hpre := controlAdvanced_postsOf (f := f) h
  have hexec := exec_control_below h tag hv hp hbelow
  rw [hground] at haccount hresidue
  rw [← hc] at haccount hresidue hlevel hheld hevents hvtr htst htime hpre hexec
  have hlast : c.vtr.log.getLast? = some r := by rw [hvtr]; exact hr
  have hlength : c.vtr.log.length = s.vtr.log.length := by rw [hvtr]
  have hclose := closeTest_postsOf f.depth.toNat c
  have hframe := closeTest_vtr f.depth.toNat c
  rw [hvtr] at hframe
  refine ⟨_, hexec, ?_⟩
  rw [decisionPass_vtr, decisionPass_rpu, decisionPass_sru, decisionPass_ulp, evaluate_vtr, evaluate_rpu, evaluate_sru,
    evaluate_ulp, closeTest_sru, closeTest_ulp]
  refine ⟨by rw [hframe], by rw [hframe], by rw [hframe], by rw [hframe], by rw [hframe], haccount, hresidue, hlevel,
    ?changed, ?same, hheld, ?stays, ?full⟩
  case changed =>
    intro hne
    rw [if_neg hne] at hevents
    exact hclose.waits (by simp) (by rw [hevents]; exact postEntry_waits _ _ _ _ _)
  case same =>
    intro heq
    rw [if_pos heq] at hevents
    have hnone := (returnEvents_postsOf s).nonePosted (k := .level) (by simp) .sru
    rw [← hevents] at hnone
    exact nonePosted_trans hnone (hclose.nonePosted (by simp) _)
  case stays =>
    intro hkeep
    have hsame : (closeTest f.depth.toNat c).vtr.log = c.vtr.log ∧ (closeTest f.depth.toNat c).vtr.accA = c.vtr.accA
        ∧ (closeTest f.depth.toNat c).vtr.accB = c.vtr.accB ∧ (closeTest f.depth.toNat c).vtr.saturated = c.vtr.saturated := by
      by_cases hdue : r.depth + s.tst.active.mounting.params.stationInterval ≤ f.depth.toNat
      · rw [closeTest_full hlast (by rwa [htst]) (by rw [hlength]; omega), refuseClose_vtr]
        exact ⟨rfl, rfl, rfl, rfl⟩
      · rw [closeTest_early hlast (by rw [htst]; omega)]
        exact ⟨rfl, rfl, rfl, rfl⟩
    rw [hvtr] at hsame
    exact hsame
  case full =>
    intro hdue hfull
    rw [closeTest_full hlast (by rwa [htst]) (by rwa [hlength]), refuseClose_vtr]
    have harmed : c.vtr.logFullArmed = s.vtr.logFullArmed := by rw [hvtr]
    refine ⟨rfl, fun ha => ?_, fun ha => ?_⟩
    · rw [refuseClose_armed (harmed.trans ha), post_events, State.setVtr_headTime, htime]
      exact postEntry_waits _ _ _ _ _
    · rw [refuseClose_notArmed (harmed.trans ha)]
      exact hpre.nonePosted (by simp) _

/-! ### The record of a station -/

theorem postDisagree_waits {m : MountingParams} {v : Vtr} {axis : Axis} (h : disagrees m v axis = true) (s : State) :
    Waits s.headTime .inclDisagree .vtr (axisCode axis) (postDisagree m v axis s).rpu.events := by
  rw [postDisagree, if_pos h]
  exact postEntry_waits _ _ _ _ _

theorem postDisagree_off {m : MountingParams} {v : Vtr} {axis : Axis} (h : disagrees m v axis = false) (s : State) :
    postDisagree m v axis s = s := if_neg (by simp [h])

/-- The posts of a close for the axes that disagree, in the order of the axes (R16). -/
def postDisagreements (m : MountingParams) (v : Vtr) (s : State) : State :=
  postDisagree m v .twist (postDisagree m v .y (postDisagree m v .x s))

/-- The last axis that disagrees is the one reported. -/
theorem postDisagreements_waits {m : MountingParams} {v : Vtr} {axis : Axis} (h : disagrees m v axis = true)
    (hlast : ∀ later, axisCode axis < axisCode later → disagrees m v later = false) (s : State) :
    Waits s.headTime .inclDisagree .vtr (axisCode axis) (postDisagreements m v s).rpu.events := by
  unfold postDisagreements
  cases axis with
  | twist => simpa using postDisagree_waits h (postDisagree m v .y (postDisagree m v .x s))
  | y =>
    rw [postDisagree_off (hlast .twist (by decide))]
    simpa using postDisagree_waits h (postDisagree m v .x s)
  | x =>
    rw [postDisagree_off (hlast .twist (by decide)), postDisagree_off (hlast .y (by decide))]
    exact postDisagree_waits h s

theorem postDisagreements_none {m : MountingParams} {v : Vtr} (h : ∀ axis, disagrees m v axis = false) (s : State) :
    postDisagreements m v s = s := by
  rw [postDisagreements, postDisagree_off (h .twist), postDisagree_off (h .y), postDisagree_off (h .x)]

theorem postDisagreements_postsOf (m : MountingParams) (v : Vtr) (s : State) :
    PostsOf [.inclDisagree] s.rpu.events (postDisagreements m v s).rpu.events :=
  ((postDisagree_postsOf m v .x s).trans (postDisagree_postsOf m v .y _)).trans (postDisagree_postsOf m v .twist _)

theorem toleranceTest_x {s : State} {ex : Int}
    (h : ex = faceOffset s.tst.active.mounting.params s.vtr false - (planTarget s.tst.active.plan s.vtr.dFace).x) :
    (s.tst.active.steering.params.toleranceX < ex.natAbs →
        Waits s.headTime .tolerance .axisX ex (toleranceTest s).rpu.events)
      ∧ (ex.natAbs ≤ s.tst.active.steering.params.toleranceX →
          NonePosted .tolerance .axisX s.rpu.events (toleranceTest s).rpu.events) := by
  unfold toleranceTest
  simp only [← h]
  refine ⟨fun hfar => ?_, fun hnear => ?_⟩
  · rw [if_pos hfar]
    split
    · exact Waits.post (postEntry_waits _ _ _ _ _) (by simp)
    · exact postEntry_waits _ _ _ _ _
  · rw [if_neg (Nat.not_lt.mpr hnear)]
    split
    · exact NonePosted.post (NonePosted.refl _ _ _) (by simp)
    · exact NonePosted.refl _ _ _

theorem toleranceTest_y {s : State} {ey : Int}
    (h : ey = faceOffset s.tst.active.mounting.params s.vtr true - (planTarget s.tst.active.plan s.vtr.dFace).y) :
    (s.tst.active.steering.params.toleranceY < ey.natAbs →
        Waits s.headTime .tolerance .axisY ey (toleranceTest s).rpu.events)
      ∧ (ey.natAbs ≤ s.tst.active.steering.params.toleranceY →
          NonePosted .tolerance .axisY s.rpu.events (toleranceTest s).rpu.events) := by
  unfold toleranceTest
  simp only [← h]
  refine ⟨fun hfar => ?_, fun hnear => ?_⟩
  · rw [if_pos hfar]
    split <;> exact postEntry_waits _ _ _ _ _
  · rw [if_neg (Nat.not_lt.mpr hnear)]
    split
    · exact NonePosted.post (NonePosted.refl _ _ _) (by simp)
    · exact NonePosted.refl _ _ _

/-- With a record at the face the offsets are those of its sums. -/
theorem faceOffset_of_last {m : MountingParams} {v : Vtr} {r : StationRecord} (hr : v.log.getLast? = some r)
    (hd : r.depth = v.dFace) :
    faceOffset m v false = roundDiv r.sX 200000 ∧ faceOffset m v true = roundDiv r.sY 200000 := by
  simp [faceOffset, hr, segmentSum, hd, offsetOf]

/-- The state of a close before its evaluation and tolerance test. -/
def stationClosed (r : StationRecord) (d : Nat) (s : State) : State :=
  (postDisagreements s.tst.active.mounting.params s.vtr s).setVtr
    { clearOpen s.vtr with log := s.vtr.log ++ [closeRecord s.tst.active.mounting.params s.vtr r d] }

theorem closeStation_eq (r : StationRecord) (d : Nat) (s : State) :
    closeStation r d s = evaluate (toleranceTest (stationClosed r d s)) := rfl

theorem closeStation_vtr (r : StationRecord) (d : Nat) (s : State) :
    (closeStation r d s).vtr
      = { clearOpen s.vtr with log := s.vtr.log ++ [closeRecord s.tst.active.mounting.params s.vtr r d] } := by
  rw [closeStation_eq, evaluate_vtr, toleranceTest_vtr]
  rfl

/-- What a close posts. -/
theorem closeStation_events {r : StationRecord} {d : Nat} {s : State} (hd : s.vtr.dFace = d) :
    (∀ axis, disagrees s.tst.active.mounting.params s.vtr axis = true →
        (∀ later, axisCode axis < axisCode later → disagrees s.tst.active.mounting.params s.vtr later = false) →
          Waits s.headTime .inclDisagree .vtr (axisCode axis) (closeStation r d s).rpu.events)
      ∧ ((∀ axis, disagrees s.tst.active.mounting.params s.vtr axis = false) →
          PostsOf [.tolerance] s.rpu.events (closeStation r d s).rpu.events)
      ∧ (∀ ex, ex = roundDiv (closeRecord s.tst.active.mounting.params s.vtr r d).sX 200000 - (planTarget s.tst.active.plan d).x →
          (s.tst.active.steering.params.toleranceX < ex.natAbs →
              Waits s.headTime .tolerance .axisX ex (closeStation r d s).rpu.events)
            ∧ (ex.natAbs ≤ s.tst.active.steering.params.toleranceX →
                NonePosted .tolerance .axisX s.rpu.events (closeStation r d s).rpu.events))
      ∧ ∀ ey, ey = roundDiv (closeRecord s.tst.active.mounting.params s.vtr r d).sY 200000 - (planTarget s.tst.active.plan d).y →
          (s.tst.active.steering.params.toleranceY < ey.natAbs →
              Waits s.headTime .tolerance .axisY ey (closeStation r d s).rpu.events)
            ∧ (ey.natAbs ≤ s.tst.active.steering.params.toleranceY →
                NonePosted .tolerance .axisY s.rpu.events (closeStation r d s).rpu.events) := by
  obtain ⟨c, hc⟩ : ∃ c, c = stationClosed r d s := ⟨_, rfl⟩
  have htime : c.headTime = s.headTime := by rw [hc]; simp [stationClosed, postDisagreements]
  have htst : c.tst = s.tst := by rw [hc]; simp [stationClosed, postDisagreements]
  have hface : c.vtr.dFace = d := by rw [hc, ← hd]; rfl
  have hevents : c.rpu.events = (postDisagreements s.tst.active.mounting.params s.vtr s).rpu.events := by rw [hc]; rfl
  have hlast : c.vtr.log.getLast? = some (closeRecord s.tst.active.mounting.params s.vtr r d) := by
    rw [hc]
    exact List.getLast?_concat
  obtain ⟨hx, hy⟩ := faceOffset_of_last (m := c.tst.active.mounting.params) hlast hface.symm
  have hpre : PostsOf [.inclDisagree] s.rpu.events c.rpu.events := hevents ▸ postDisagreements_postsOf _ _ s
  have htol := toleranceTest_postsOf c
  rw [closeStation_eq, evaluate_rpu, ← hc]
  refine ⟨fun axis ha hlater => ?_, fun hall => ?_, fun ex he => ?_, fun ey he => ?_⟩
  · refine htol.waits (by simp) ?_
    rw [hevents]
    exact postDisagreements_waits ha hlater s
  · rw [postDisagreements_none hall] at hevents
    rwa [hevents] at htol
  · obtain ⟨hfar, hnear⟩ := toleranceTest_x (s := c) (ex := ex) (by rw [hx, hface, htst, he])
    rw [htime, htst] at hfar
    rw [htst] at hnear
    exact ⟨hfar, fun hle => nonePosted_trans (hpre.nonePosted (by simp) _) (hnear hle)⟩
  · obtain ⟨hfar, hnear⟩ := toleranceTest_y (s := c) (ey := ey) (by rw [hy, hface, htst, he])
    rw [htime, htst] at hfar
    rw [htst] at hnear
    exact ⟨hfar, fun hle => nonePosted_trans (hpre.nonePosted (by simp) _) (hnear hle)⟩

/-- The first segment takes the new inclination at both its ends. -/
theorem segmentSum_eq (sum0 m0 : Int) (index0 depth0 depth : Nat) (m : Int) :
    segmentSum sum0 m0 index0 depth0 depth m
      = sum0 + ((if index0 = 0 then m else m0) + m) * ((depth : Int) - depth0) := by
  unfold segmentSum
  split
  · ring
  · rfl

/-- A vote is formed from the accumulators and the log. -/
theorem vote_congr {m : MountingParams} {v w : Vtr} (ha : w.accA = v.accA) (hb : w.accB = v.accB) (hl : w.log = v.log)
    (axis : Axis) : vote m w axis = vote m v axis ∧ disagrees m w axis = disagrees m v axis := by
  simp only [vote, disagrees, ha, hb, hl, and_self]

/-- Settles O29. -/
theorem stationCloseAppendsRecord : Obligations.StationCloseAppendsRecord := by
  unfold Obligations.StationCloseAppendsRecord
  intro tag f r m s h hv hp hbelow hr hdue hroom hm sX sY hsX hsY
  obtain ⟨c, hc⟩ : ∃ c, c = controlAdvanced f s := ⟨_, rfl⟩
  have hvtr := controlAdvanced_vtr h hbelow
  have htst := controlAdvanced_tst (f := f) h
  have htime := controlAdvanced_headTime (f := f) h
  have hpre := controlAdvanced_postsOf (f := f) h
  have hexec := exec_control_below h tag hv hp hbelow
  rw [← hc] at hvtr htst htime hpre hexec
  have hlast : c.vtr.log.getLast? = some r := by rw [hvtr]; exact hr
  have hlength : c.vtr.log.length = s.vtr.log.length := by rw [hvtr]
  rw [closeTest_closes hlast (by rwa [htst]) (by rwa [hlength])] at hexec
  have hvote : ∀ axis, vote s.tst.active.mounting.params c.vtr axis = m axis := fun axis => by
    rw [hm, hvtr]
    exact (vote_congr rfl rfl rfl axis).1
  have hdis : ∀ axis, disagrees s.tst.active.mounting.params c.vtr axis = disagrees s.tst.active.mounting.params s.vtr axis :=
    fun axis => by
      rw [hvtr]
      exact (vote_congr rfl rfl rfl axis).2
  have hrecord : closeRecord s.tst.active.mounting.params c.vtr r f.depth.toNat
      = ⟨s.vtr.log.length, f.depth.toNat, m .x, m .y, m .twist, sX, sY,
          min 65535 (s.vtr.accA.count + s.vtr.accB.count),
          { start := false
            held := decide (s.vtr.accA.count = 0 ∧ s.vtr.accB.count = 0)
            single :=
              decide ((s.vtr.accA.count = 0 ∧ s.vtr.accB.count ≠ 0) ∨ (s.vtr.accA.count ≠ 0 ∧ s.vtr.accB.count = 0))
            disagree :=
              disagrees s.tst.active.mounting.params s.vtr .x || disagrees s.tst.active.mounting.params s.vtr .y
                || disagrees s.tst.active.mounting.params s.vtr .twist
            saturated := s.vtr.saturated
            long := decide (r.depth + 2 * s.tst.active.mounting.params.stationInterval ≤ f.depth.toNat) }⟩ := by
    have hsingle : decide ((s.vtr.accA.count = 0) ≠ (s.vtr.accB.count = 0))
        = decide ((s.vtr.accA.count = 0 ∧ s.vtr.accB.count ≠ 0) ∨ (s.vtr.accA.count ≠ 0 ∧ s.vtr.accB.count = 0)) := by
      by_cases ha : s.vtr.accA.count = 0 <;> by_cases hb : s.vtr.accB.count = 0 <;> simp [ha, hb]
    simp only [closeRecord, closeFlags, hvote, hdis, segmentSum_eq, ← hsX, ← hsY]
    rw [hvtr]
    simp only [hsingle]
  obtain ⟨hlater, hnone, hx, hy⟩ := closeStation_events (r := r) (s := c) (d := f.depth.toNat) (by rw [hvtr])
  rw [htst, hrecord] at hx hy
  rw [htst] at hlater hnone
  rw [htime] at hlater hx hy
  simp only [hdis] at hlater hnone
  refine ⟨_, hexec, ?_⟩
  rw [decisionPass_vtr, decisionPass_rpu, evaluate_vtr, evaluate_rpu, closeStation_vtr, htst, hrecord]
  refine ⟨by rw [hvtr], rfl, rfl, rfl, by rw [hvtr]; rfl, hlater, fun hall => ?_, fun ex ey hex hey => ?_⟩
  · exact nonePosted_trans (hpre.nonePosted (by simp) _) ((hnone hall).nonePosted (by simp) _)
  · have hex' : ex = roundDiv sX 200000 - (planTarget s.tst.active.plan f.depth.toNat).x := by
      have := RoundedQuotient.unique (by decide) hex (roundDiv_rounded sX 200000 (by decide))
      omega
    have hey' : ey = roundDiv sY 200000 - (planTarget s.tst.active.plan f.depth.toNat).y := by
      have := RoundedQuotient.unique (by decide) hey (roundDiv_rounded sY 200000 (by decide))
      omega
    obtain ⟨hxfar, hxnear⟩ := hx ex hex'
    obtain ⟨hyfar, hynear⟩ := hy ey hey'
    exact ⟨hxfar, fun hle => nonePosted_trans (hpre.nonePosted (by simp) _) (hxnear hle), hyfar,
      fun hle => nonePosted_trans (hpre.nonePosted (by simp) _) (hynear hle)⟩

end Sys2Proof.Machine

namespace Sys2Proof.Machine

open Sys2Proof.Safety

/-! SUPPORT. The bus: grants, good responses and what their consumers leave alone (R134, R138, R141 to R144, R147). -/

/-! ### Grants -/

/-- Settles O31. -/
theorem busIsGrantedAndReleased : Obligations.BusIsGrantedAndReleased := by
  unfold Obligations.BusIsGrantedAndReleased
  intro s
  refine ⟨fun num x h1 hx hdue => ?_, fun deadline hb hreached => ?_, fun tx hb => ?_⟩
  · have hexec : exec (.slotDue num) s = .next (serveUplink (arbitrate s)) := by
      show Host.Outcome.next (serveUplink (slotDueReached num s)) = _
      rw [slotDueReached, slotAt_eq _ _ h1, hx]
      exact congrArg (fun t => Host.Outcome.next (serveUplink t)) (if_pos hdue)
    refine ⟨fun hidle => ⟨(arbitrate s).sbm, ?_, arbitrate_granted s hidle⟩, fun hbusy => ?_⟩
    · rw [hexec, ← arbitrate_eq s]
    · rw [hexec, arbitrate_busy s hbusy]
  · have hexec : exec .quietEnd s = .next (serveUplink (arbitrate (s.setSbm { s.sbm with bus := .idle }))) := by
      show Host.Outcome.next (serveUplink (quietExpiry s)) = _
      rw [quietExpiry, hb]
      exact congrArg (fun t => Host.Outcome.next (serveUplink t)) (if_pos hreached)
    refine ⟨_, ?_, arbitrate_granted (s.setSbm { s.sbm with bus := .idle }) rfl⟩
    rw [hexec, arbitrate_eq]
    rfl
  · show Host.Outcome.next (serveUplink (releasePair s)) = _
    rw [releasePair, hb]
    rfl

/-- What the arbiter looks at outside the bus master. -/
theorem granted_congr {s t : State} {before after : Sbm} (htst : t.tst = s.tst) (htime : t.headTime = s.headTime)
    (h : Granted t before after) : Granted s before after := by
  unfold Granted at h ⊢
  rw [htst, htime] at h
  exact h

/-- What a telemetry record takes from outside the port. -/
theorem relayed_congr {s t : State} {num : Nat} {role : Role} {relayBad noRelay : Bool} {tags : TagSet}
    {payload : Option (List Byte)} {before after : Ulp} (htst : t.tst = s.tst) (htime : t.headTime = s.headTime)
    (h : Relayed t num role relayBad noRelay tags payload before after) :
    Relayed s num role relayBad noRelay tags payload before after := by
  unfold Relayed at h ⊢
  rw [htst, htime] at h
  exact h

/-! ### The sample and its consumer -/

/-- A good sample taken by its consumer, with the notice of a node that became ALIVE or without. -/
def sampleTaken (told : Bool) (role : Role) (payload : List Byte) (c : State) : State :=
  if told then deliverWithNotice role payload c else deliverSample role payload c

/-- What a consumer leaves alone: the bus, the tables, the setpoint, the port but for the FEED HOLD slot, and every event
but trips and load levels. -/
structure ConsumerKeeps (c y : State) : Prop where
  headTime : y.headTime = c.headTime
  nSet : y.nSet = c.nSet
  sbm : y.sbm = c.sbm
  tst : y.tst = c.tst
  pending : y.pending = c.pending
  ulp : y.ulp = { c.ulp with feedHold := y.ulp.feedHold }
  rpu : y.rpu = { c.rpu with events := y.rpu.events }
  events : PostsOf [.trip, .lockout, .level] c.rpu.events y.rpu.events

theorem ConsumerKeeps.of_quiet {c y : State} (htime : y.headTime = c.headTime) (hset : y.nSet = c.nSet)
    (hsbm : y.sbm = c.sbm) (htst : y.tst = c.tst) (hpending : y.pending = c.pending) (hulp : y.ulp = c.ulp)
    (hrpu : y.rpu = c.rpu) : ConsumerKeeps c y :=
  ⟨htime, hset, hsbm, htst, hpending, by rw [hulp], by rw [hrpu], by rw [hrpu]; exact PostsOf.refl _ _⟩

theorem tripDrum_postsOf (d : Drum) (pressure : Nat) (s : State) :
    PostsOf [.trip, .lockout] s.rpu.events (tripDrum d pressure s).rpu.events := by
  unfold tripDrum
  simp only [post_events, State.setGovernor_rpu]
  refine PostsOf.post ?_ _ _ _
  unfold tripEvent
  split <;> simp

theorem tripDrum_rpu (d : Drum) (pressure : Nat) (s : State) :
    (tripDrum d pressure s).rpu = { s.rpu with events := (tripDrum d pressure s).rpu.events } := by
  unfold tripDrum
  rw [post_rpu, State.setGovernor_rpu]

theorem accountUpdate_postsOf (cut returned : Nat) (s : State) :
    PostsOf [.level] s.rpu.events (accountUpdate cut returned s).rpu.events := by
  rw [accountUpdate_rpu]
  simp only
  split
  · exact PostsOf.refl _ _
  · exact PostsOf.post List.mem_cons_self _ _ _

theorem drumSample_keeps (d : Drum) (x : DrumSample) (c : State) : ConsumerKeeps c (drumSample d x c) := by
  have hrpu : (drumSample d x c).rpu = { c.rpu with events := (drumSample d x c).rpu.events }
      ∧ PostsOf [.trip, .lockout, .level] c.rpu.events (drumSample d x c).rpu.events := by
    rw [drumSample_eq d x c _ rfl]
    split
    · split
      · have hrpu := tripDrum_rpu d (takenPressure x)
          (c.setGovernor d { c.governor d with nMeas := measured x (c.governor d).running })
        have hposts := tripDrum_postsOf d (takenPressure x)
          (c.setGovernor d { c.governor d with nMeas := measured x (c.governor d).running })
        rw [State.setGovernor_rpu] at hrpu hposts
        exact ⟨hrpu, hposts.mono (by simp)⟩
      · rw [State.setGovernor_rpu]
        exact ⟨rfl, PostsOf.refl _ _⟩
    · rw [State.setGovernor_rpu]
      exact ⟨rfl, PostsOf.refl _ _⟩
  exact ⟨drumSample_headTime d x c, drumSample_nSet d x c, drumSample_sbm d x c, drumSample_tst d x c,
    drumSample_pending d x c, by rw [drumSample_ulp], hrpu.1, hrpu.2⟩

/-- A SLURRY sample ends in an account update. -/
theorem slurrySample_update (x : SlurrySample) (c : State) :
    ∃ (returned : Nat) (v : Sru), slurrySample x c = accountUpdate 0 returned (c.setSru v) := ⟨_, _, rfl⟩

theorem slurrySample_keeps (x : SlurrySample) (c : State) : ConsumerKeeps c (slurrySample x c) := by
  obtain ⟨returned, v, he⟩ := slurrySample_update x c
  have hposts := accountUpdate_postsOf 0 returned (c.setSru v)
  rw [State.setSru_rpu] at hposts
  refine ⟨slurrySample_headTime x c, slurrySample_nSet x c, slurrySample_sbm x c, slurrySample_tst x c,
    slurrySample_pending x c, ?_, ?_, ?_⟩
  · rw [he, accountUpdate_ulp, State.setSru_ulp]
  · rw [he, accountUpdate_rpu, State.setSru_rpu]
  · rw [he]
    exact hposts.mono (by simp)

theorem inclSample_keeps (k : Sensor) (x : InclSample) (c : State) : ConsumerKeeps c (inclSample k x c) :=
  .of_quiet (by simp) (by simp) (by simp) (by simp) (by simp) (by simp) (by simp)

theorem flapSample_keeps (v : Quad Nat) (c : State) : ConsumerKeeps c (flapSample v c) :=
  .of_quiet (by simp) (by simp) (by simp) (by simp) (by simp) (by simp) (by simp)

theorem deliverSample_keeps (role : Role) (payload : List Byte) (c : State) :
    ConsumerKeeps c (deliverSample role payload c) := by
  cases role with
  | inclA => exact inclSample_keeps _ _ _
  | inclB => exact inclSample_keeps _ _ _
  | drumL => exact drumSample_keeps _ _ _
  | drumR => exact drumSample_keeps _ _ _
  | slurry => exact slurrySample_keeps _ _
  | flap => exact flapSample_keeps _ _
  | aux => exact .of_quiet rfl rfl rfl rfl rfl rfl rfl

theorem drumSampleWithNotice_keeps (d : Drum) (x : DrumSample) (c : State) :
    ConsumerKeeps c (drumSampleWithNotice d x c) := by
  unfold drumSampleWithNotice
  split
  · exact .of_quiet (by simp) (by simp) (by simp) (by simp) (by simp) (by simp) (by simp)
  · exact drumSample_keeps d x c

theorem flapSampleWithNotice_keeps (v : Quad Nat) (c : State) : ConsumerKeeps c (flapSampleWithNotice v c) :=
  .of_quiet (by simp) (by simp) (by simp) (by simp) (by simp) (by simp) (by simp)

theorem deliverWithNotice_keeps (role : Role) (payload : List Byte) (c : State) :
    ConsumerKeeps c (deliverWithNotice role payload c) := by
  cases role with
  | drumL => exact drumSampleWithNotice_keeps _ _ _
  | drumR => exact drumSampleWithNotice_keeps _ _ _
  | flap => exact flapSampleWithNotice_keeps _ _
  | inclA => exact deliverSample_keeps .inclA _ _
  | inclB => exact deliverSample_keeps .inclB _ _
  | slurry => exact deliverSample_keeps .slurry _ _
  | aux => exact deliverSample_keeps .aux payload c

theorem sampleTaken_keeps (told : Bool) (role : Role) (payload : List Byte) (c : State) :
    ConsumerKeeps c (sampleTaken told role payload c) := by
  cases told with
  | true => exact deliverWithNotice_keeps role payload c
  | false => exact deliverSample_keeps role payload c

theorem sampleTaken_aux (told : Bool) (payload : List Byte) (c : State) : sampleTaken told .aux payload c = c := by
  cases told <;> rfl

theorem exec_responseComplete (chars : List BusChar) (s : State) :
    exec (.responseComplete chars) s = .next (serveUplink (receiveResponse chars s)) := rfl

/-- Settles O32: the consumer leaves the bus and every event of a node, and its record and the grant follow. -/
theorem goodResponseServesItsSlot : Obligations.GoodResponseServesItsSlot := by
  unfold Obligations.GoodResponseServesItsSlot
  refine ⟨?counted, ?replaced⟩
  case counted =>
    intro s chars num role relayBad noRelay payload x row h
    obtain ⟨tx, deadline, hb, he⟩ := receiveResponse_good h
    obtain ⟨c, hc⟩ : ∃ c, c = servedState s num tx.address x row := ⟨_, rfl⟩
    obtain ⟨y, hy⟩ : ∃ y, y = sampleTaken (decide (x.node ≠ .alive)) role payload c := ⟨_, rfl⟩
    have hkeeps : ConsumerKeeps c y := hy ▸ sampleTaken_keeps _ role payload c
    obtain ⟨t, ht⟩ : ∃ t, t = arbitrate (relay num role relayBad noRelay noTags payload y) := ⟨_, rfl⟩
    have hexec : exec (.responseComplete chars) s = .next (serveUplink t) := by
      rw [exec_responseComplete, he, ht, hy, ← hc]
      by_cases hn : x.node = .alive <;> simp [sampleTaken, hn]
    have hbus : y.sbm = slotServedGood s num x row := by rw [hkeeps.sbm, hc]; rfl
    have htst : y.tst = s.tst := by rw [hkeeps.tst, hc]; rfl
    have htime : y.headTime = s.headTime := by rw [hkeeps.headTime, hc]; rfl
    obtain ⟨hgranted, hrelayed, hrest⟩ := arbitrate_relay num role relayBad noRelay payload y (by rw [hbus]; rfl)
    rw [← ht] at hgranted hrelayed hrest
    have hevents : t.rpu.events = y.rpu.events := by rw [hrest]
    have hfeed : t.ulp.feedHold = y.ulp.feedHold := by rw [hrelayed.1]
    have hulp : withOverrun (dueAfter s.headTime x.due row.period).2 { s.ulp with feedHold := t.ulp.feedHold } = y.ulp := by
      rw [hfeed, hkeeps.ulp, hc]
      rfl
    refine ⟨t, hexec, ?_, ?_, fun hlost => ?_, fun hnot => ?_, ?_, ?_, ?_, ?_, ?_, fun haux hnot => ?_⟩
    · exact granted_congr htst htime (hbus ▸ hgranted)
    · rw [hulp]
      exact relayed_congr htst htime hrelayed
    · refine ⟨tx, deadline, hb, ?_⟩
      rw [hevents]
      refine hkeeps.events.waits (by simp) ?_
      rw [hc]
      simp only [servedState, if_pos hlost]
      exact postEntry_waits _ _ _ _ _
    · rw [hevents]
      have hsame : c.rpu.events = s.rpu.events := by
        rw [hc]
        exact if_neg hnot
      exact hsame ▸ hkeeps.events.nonePosted (by simp) _
    · rw [hrest, htst]
    · rw [hrest, htime]
    · rw [hrest, hkeeps.nSet, hc]
      rfl
    · rw [hrest, hkeeps.pending, hc]
      rfl
    · rw [hevents, hrest, hkeeps.rpu, hc]
      rfl
    · have hyc : y = c := by rw [hy, haux, sampleTaken_aux]
      have hcs : c = { s with sbm := c.sbm, ulp := c.ulp } := by
        rw [hc]
        simp only [servedState, if_neg hnot]
      rw [hyc] at hrest
      rw [hcs] at hrest
      exact hrest
  case replaced =>
    intro s chars tx deadline r num role relayBad noRelay hb hs hg htags
    obtain ⟨y, hy⟩ : ∃ y, y = deliverSample role r.payload (s.setSbm { s.sbm with bus := .idle }) := ⟨_, rfl⟩
    have hkeeps : ConsumerKeeps (s.setSbm { s.sbm with bus := .idle }) y := hy ▸ deliverSample_keeps role r.payload _
    obtain ⟨t, ht⟩ : ∃ t, t = arbitrate (relay num role relayBad noRelay noTags r.payload y) := ⟨_, rfl⟩
    have hexec : exec (.responseComplete chars) s = .next (serveUplink t) := by
      rw [exec_responseComplete, receiveResponse_replaced hb hs hg htags, ht, hy]
    have hbus : y.sbm = { s.sbm with bus := .idle } := by rw [hkeeps.sbm]; rfl
    obtain ⟨hgranted, hrelayed, hrest⟩ := arbitrate_relay num role relayBad noRelay r.payload y (by rw [hbus])
    rw [← ht] at hgranted hrelayed hrest
    have hevents : t.rpu.events = y.rpu.events := by rw [hrest]
    have hfeed : t.ulp.feedHold = y.ulp.feedHold := by rw [hrelayed.1]
    have hulp : { s.ulp with feedHold := t.ulp.feedHold } = y.ulp := by
      rw [hfeed, hkeeps.ulp]
      rfl
    refine ⟨t, hexec, ?_, ?_, fun slot => ?_, fun haux => ?_⟩
    · exact granted_congr hkeeps.tst hkeeps.headTime (hbus ▸ hgranted)
    · rw [hulp]
      exact relayed_congr hkeeps.tst hkeeps.headTime hrelayed
    · rw [hevents]
      exact ⟨hkeeps.events.nonePosted (by simp) _, hkeeps.events.nonePosted (by simp) _⟩
    · subst haux
      have hys : y = s.setSbm { s.sbm with bus := .idle } := hy
      rw [hys] at hrest
      exact hrest

/-- A sample that comes to its consumer: the state the consumer finds, what it leaves, and what the record and the grant
then change. -/
theorem exec_sampleComes {s : State} {chars : List BusChar} {role : Role} {payload : List Byte} {told : Bool}
    {posted : List EventEntry} (h : SampleComes s chars role payload told posted) :
    ∃ (late : Bool) (b : Sbm) (c y t : State),
      c = { s with sbm := b, ulp := withOverrun late s.ulp, rpu := { s.rpu with events := posted } }
        ∧ y = sampleTaken told role payload c ∧ exec (.responseComplete chars) s = .next (serveUplink t)
        ∧ t = { y with sbm := t.sbm, ulp := t.ulp } ∧ t.sbm.slots = b.slots ∧ t.ulp.feedHold = y.ulp.feedHold := by
  obtain ⟨num, relayBad, noRelay, late, b, c, hc, hidle, -, he⟩ := receiveResponse_comes h
  obtain ⟨y, hy⟩ : ∃ y, y = sampleTaken told role payload c := ⟨_, rfl⟩
  have hkeeps : ConsumerKeeps c y := hy ▸ sampleTaken_keeps told role payload c
  have hbus : y.sbm = b := by rw [hkeeps.sbm, hc]
  obtain ⟨hgranted, hrelayed, hrest⟩ := arbitrate_relay num role relayBad noRelay payload y (by rw [hbus, hidle])
  refine ⟨late, b, c, y, arbitrate (relay num role relayBad noRelay noTags payload y), hc, hy, ?_, hrest, ?_, ?_⟩
  · rw [exec_responseComplete, he, hy]
    rfl
  · rw [hgranted.1, hbus]
  · rw [hrelayed.1]

/-- The slots decide which node is ALIVE. -/
theorem roleAlive_congr {s t : State} (hslots : t.sbm.slots = s.sbm.slots) (htst : t.tst = s.tst) (role : Role) :
    roleAlive role t = roleAlive role s := by
  have hnode : roleNode role t = roleNode role s := by simp only [roleNode, hslots, htst]
  rw [roleAlive, hnode, roleAlive]

end Sys2Proof.Machine

namespace Sys2Proof.Machine

open Sys2Proof.Safety

/-! SUPPORT. What each consumer does with its sample (R9 to R12, R55 to R71, R100 to R113, R123, R129). -/

/-! ### Inclinometers -/

theorem accumulated_off {m : MountingTable} {sensor : Sensor} {x : InclSample} {v : Vtr}
    (h : v.state ≠ .advancing ∨ 65535 ≤ (accumulatorOf v sensor).count) : accumulated m sensor x v = v := by
  refine if_neg ?_
  rintro ⟨hs, hc⟩
  rcases h with h | h
  · exact h hs
  · exact absurd hc (Nat.not_lt.mpr h)

theorem accumulated_a {m : MountingTable} {x : InclSample} {v : Vtr} (hs : v.state = .advancing)
    (hc : v.accA.count < 65535) :
    accumulated m .a x v
      = { v with
          accA := accumulate v.accA (clamped (corrected m.offsetsA x))
          saturated := v.saturated || decide (clamped (corrected m.offsetsA x) ≠ corrected m.offsetsA x) } :=
  if_pos ⟨hs, hc⟩

theorem accumulated_b {m : MountingTable} {x : InclSample} {v : Vtr} (hs : v.state = .advancing)
    (hc : v.accB.count < 65535) :
    accumulated m .b x v
      = { v with
          accB := accumulate v.accB (clamped (corrected m.offsetsB x))
          saturated := v.saturated || decide (clamped (corrected m.offsetsB x) ≠ corrected m.offsetsB x) } :=
  if_pos ⟨hs, hc⟩

theorem sampleTaken_inclinometer (told : Bool) (sensor : Sensor) (payload : List Byte) (c : State) :
    sampleTaken told (inclinometerRole sensor) payload c = inclSample sensor (inclOf payload) c := by
  cases told <;> cases sensor <;> rfl

/-- An inclinometer sample: the tracker with it accumulated, the evaluation, and the target change handed. -/
theorem exec_inclinometer {sensor : Sensor} {s : State} {chars : List BusChar} {payload : List Byte} {told : Bool}
    {posted : List EventEntry} (h : SampleComes s chars (inclinometerRole sensor) payload told posted) :
    ∃ t, exec (.responseComplete chars) s = .next (serveUplink t)
      ∧ t.vtr = accumulated s.tst.active.mounting sensor (inclOf payload) s.vtr
      ∧ Evaluated s.tst.active.steering (effectiveMode s) t.vtr.state (steeringErrors s.tst.active t.vtr) s.spl t.spl
      ∧ Handed s t.spl.targets t.pps.plates
      ∧ t = { s with
              sbm := t.sbm, ulp := t.ulp, rpu := { s.rpu with events := posted }, vtr := t.vtr, spl := t.spl
              pps := { s.pps with plates := t.pps.plates } } := by
  obtain ⟨late, b, c, y, t, hc, hy, hexec, ht, -, -⟩ := exec_sampleComes h
  rw [sampleTaken_inclinometer] at hy
  obtain ⟨e, he⟩ : ∃ e, e = c.setVtr (accumulated c.tst.active.mounting sensor (inclOf payload) c.vtr) := ⟨_, rfl⟩
  have hye : y = evaluateAndHand e := by rw [hy, he]; rfl
  have hrest := evaluateAndHand_eq e
  have hspl := evaluate_spl e
  have hhanded := evaluateAndHand_handed e
  rw [← evaluateAndHand_spl, ← hye] at hspl
  rw [← hye] at hrest hhanded
  have hvtr : t.vtr = e.vtr := by rw [ht, hrest]
  have hsplt : t.spl = y.spl := by rw [ht]
  have hppst : t.pps = y.pps := by rw [ht]
  have hevtr : e.vtr = accumulated s.tst.active.mounting sensor (inclOf payload) s.vtr := by rw [he, hc]; rfl
  refine ⟨t, hexec, by rw [hvtr, hevtr], ?_, ?_, ?_⟩
  · rw [hvtr, hsplt]
    rw [he, hc] at hspl ⊢
    exact hspl
  · rw [hsplt, hppst]
    rw [he, hc] at hhanded
    exact hhanded
  · rw [hvtr, hsplt, hppst]
    refine ht.trans ?_
    rw [hrest]
    rw [he, hc]
    rfl

/-- Settles O34. -/
theorem inclinometerSampleAccumulates : Obligations.InclinometerSampleAccumulates := by
  unfold Obligations.InclinometerSampleAccumulates
  intro sensor s chars payload told posted o a y z h ho ha hy hz
  obtain ⟨t, hexec, hvtr, hspl, hplates, hrest⟩ := exec_inclinometer h
  have hacc : a = accumulatorOf s.vtr sensor := by
    rw [ha]
    cases sensor <;> rfl
  refine ⟨t, hexec, fun hoff => ?_, fun hs hcount => ?_, hspl, hplates, hrest⟩
  · rw [hvtr]
    exact accumulated_off (by rwa [← hacc])
  · rw [hvtr]
    subst hy hz ho ha
    cases sensor with
    | a => exact accumulated_a hs hcount
    | b => exact accumulated_b hs hcount

/-! ### Drums -/

theorem sampleTaken_drum (told : Bool) (d : Drum) (payload : List Byte) (c : State) :
    sampleTaken told (drumRole d) payload c
      = if told then drumSampleWithNotice d (drumOf payload) c else drumSample d (drumOf payload) c := by
  cases told <;> cases d <;> rfl

theorem drumSample_governor_ne {d other : Drum} (h : other ≠ d) (x : DrumSample) (c : State) :
    (drumSample d x c).governor other = c.governor other := by
  rw [drumSample_eq d x c _ rfl]
  split
  · split
    · simp [tripDrum, h]
    · simp [h]
  · simp [h]

/-- What a drum sample may change. -/
theorem drumSample_rest (d : Drum) (x : DrumSample) (c : State) :
    drumSample d x c
      = { c with
          rpu := { c.rpu with events := (drumSample d x c).rpu.events }
          governorL := (drumSample d x c).governorL
          governorR := (drumSample d x c).governorR
          freeSeq := (drumSample d x c).freeSeq } := by
  apply State.eq_of_fields
  have hrpu := (drumSample_keeps d x c).rpu
  refine ⟨?_, ?_, ?_, rfl, rfl, ?_, ?_, ?_, ?_, ?_, ?_, hrpu, rfl, ?_⟩ <;> simp

/-- A governor in NOFB whose node becomes ALIVE with a sample. -/
theorem drumSampleWithNotice_nofb {d : Drum} {c : State} (h : (c.governor d).state = .nofb) (x : DrumSample) :
    drumSampleWithNotice d x c
      = (c.setGovernor d (governorReturned (Config.nMeasAfterChange c.freeSeq) x (c.governor d))).nextFree := if_pos h

theorem drumSampleWithNotice_other {d : Drum} {c : State} (h : (c.governor d).state ≠ .nofb) (x : DrumSample) :
    drumSampleWithNotice d x c = drumSample d x c := if_neg h

theorem governorReturned_eq (afterChange : Bool) (x : DrumSample) {g : Governor} (h : g.state = .nofb) :
    governorReturned afterChange x g
      = { enterOff g with nMeas := sensedSpeed x (if afterChange then g.requested else g.running) } := by
  rw [governorReturned, governorAlive, if_pos h, measured_eq]

/-- What a drum sample with or without a notice may change. -/
theorem sampleTaken_drum_rest (told : Bool) (d : Drum) (payload : List Byte) (c : State) :
    sampleTaken told (drumRole d) payload c
      = { c with
          rpu := { c.rpu with events := (sampleTaken told (drumRole d) payload c).rpu.events }
          governorL := (sampleTaken told (drumRole d) payload c).governorL
          governorR := (sampleTaken told (drumRole d) payload c).governorR
          freeSeq := (sampleTaken told (drumRole d) payload c).freeSeq } := by
  rw [sampleTaken_drum]
  have hsample := drumSample_rest d (drumOf payload) c
  cases told with
  | false => exact hsample
  | true =>
    by_cases h : (c.governor d).state = .nofb
    · rw [if_pos rfl, drumSampleWithNotice_nofb h]
      cases d <;> rfl
    · rw [if_pos rfl, drumSampleWithNotice_other h]
      exact hsample

/-- What a trip takes from outside the drum. -/
theorem drumTripped_congr {s t : State} (htst : t.tst = s.tst) (htime : t.headTime = s.headTime) {d : Drum}
    {pressure : Nat} {g h : Governor} {before events : List EventEntry}
    (htrip : DrumTripped t d pressure g h before events) : DrumTripped s d pressure g h before events := by
  unfold DrumTripped at htrip ⊢
  rw [htst, htime] at htrip
  exact htrip

/-- A drum sample without a notice that counts: stored, and in RUN and STOPPING a trip or an update. -/
theorem drumSample_updates (d : Drum) (x : DrumSample) (c : State) {g : Governor}
    (hg : g = { c.governor d with nMeas := sensedSpeed x (c.governor d).running }) :
    (driving g = false → (drumSample d x c).governor d = g ∧ (drumSample d x c).rpu.events = c.rpu.events)
      ∧ (driving g = true → c.tst.active.drum.params.pTrip < min 4000 x.pressure →
          DrumTripped c d (min 4000 x.pressure) g ((drumSample d x c).governor d) c.rpu.events
            (drumSample d x c).rpu.events)
      ∧ (driving g = true → min 4000 x.pressure ≤ c.tst.active.drum.params.pTrip →
          Updated c.headTime c.tst.active.drum d (currentTarget d c) g ((drumSample d x c).governor d)
            ∧ (drumSample d x c).rpu.events = c.rpu.events) := by
  have he := drumSample_eq d x c g (by rw [hg, measured_eq])
  refine ⟨fun hd => ?_, fun hd hp => ?_, fun hd hp => ?_⟩
  · rw [he, if_neg (by simp [hd])]
    simp
  · have hp' : c.tst.active.drum.params.pTrip < takenPressure x := hp
    rw [he, if_pos hd, if_pos hp']
    have htrip := tripDrum_tripped d (takenPressure x) (c.setGovernor d g)
    rw [State.setGovernor_governor, if_pos rfl, State.setGovernor_rpu] at htrip
    exact drumTripped_congr (State.setGovernor_tst _ _ _) (State.setGovernor_headTime _ _ _) htrip
  · have hp' : ¬c.tst.active.drum.params.pTrip < takenPressure x := Nat.not_lt.mpr hp
    rw [he, if_pos hd, if_neg hp', State.setGovernor_governor, if_pos rfl, State.setGovernor_rpu]
    exact ⟨updateStages_updated _ _ _ _ _ hd, rfl⟩

/-- Settles O33. -/
theorem drumSampleUpdatesGovernor : Obligations.DrumSampleUpdatesGovernor := by
  unfold Obligations.DrumSampleUpdatesGovernor
  intro d s chars payload told posted h sample g hsample hg
  obtain ⟨late, b, c, y, t, hc, hy, hexec, ht, hslots, -⟩ := exec_sampleComes h
  have hyrest := sampleTaken_drum_rest told d payload c
  rw [← hy] at hyrest
  rw [sampleTaken_drum, ← hsample] at hy
  have hgov : ∀ e, c.governor e = s.governor e := fun e => by rw [hc]; cases e <;> rfl
  have hgovt : ∀ e, t.governor e = y.governor e := fun e => by rw [ht]; cases e <;> rfl
  have hevents : t.rpu.events = y.rpu.events := by rw [ht]
  have hseq : t.freeSeq = y.freeSeq := by rw [ht]
  have hcevents : c.rpu.events = posted := by rw [hc]
  have hstate : g.state = (c.governor d).state := by rw [hg, hgov]
  have hrest : t = { s with
      sbm := t.sbm, ulp := t.ulp, rpu := { s.rpu with events := t.rpu.events }, governorL := t.governorL
      governorR := t.governorR, freeSeq := t.freeSeq } := by
    have hL : t.governorL = y.governorL := hgovt .left
    have hR : t.governorR = y.governorR := hgovt .right
    rw [hevents, hseq, hL, hR]
    refine ht.trans ?_
    rw [hyrest, hc]
  by_cases hreturn : told = true ∧ g.state = .nofb
  · obtain ⟨htold, hnofb⟩ := hreturn
    rw [if_pos htold, drumSampleWithNotice_nofb (hstate ▸ hnofb)] at hy
    refine ⟨t, hexec, fun _ _ => ?_, fun hno => ?_, fun other hne => ?_, hrest⟩
    · refine ⟨if Config.nMeasAfterChange c.freeSeq then g.requested else g.running, ?_, ?_, ?_, ?_⟩
      · split
        · exact .inr rfl
        · exact .inl rfl
      · rw [hgovt, hy, State.nextFree_governor, State.setGovernor_governor, if_pos rfl,
          governorReturned_eq _ _ (hstate ▸ hnofb), hgov, hg]
        rfl
      · rw [hevents, hy, State.nextFree_rpu, State.setGovernor_rpu, hcevents]
      · rw [hseq, hy, hc]
        cases d <;> rfl
    · rcases hno with hno | hno
      · simp [hno] at htold
      · exact absurd hnofb hno
    · rw [hgovt, hy, State.nextFree_governor, State.setGovernor_governor, if_neg hne, hgov]
  · have hsample' : y = drumSample d sample c := by
      by_cases htold : told = true
      · rw [hy, if_pos htold, drumSampleWithNotice_other (by rw [← hstate]; exact fun hn => hreturn ⟨htold, hn⟩)]
      · rw [hy, if_neg htold]
    obtain ⟨hstill, htrip, hupdate⟩ := drumSample_updates d sample c (g := g) (by rw [hgov, hg])
    rw [← hsample', hcevents] at hstill htrip hupdate
    have htarget : currentTarget d c
        = composedTarget s.nSet s.tst.active.drum.params.nMax s.spl.deltaN (loadFactor { s with sbm := t.sbm }) d := by
      have halive : roleAlive .slurry { s with sbm := t.sbm } = roleAlive .slurry c :=
        roleAlive_congr (by rw [hc]; exact hslots) (by rw [hc]) _
      have hload : loadFactor { s with sbm := t.sbm } = loadFactor c := by
        simp only [loadFactor, halive]
        rw [hc]
      rw [hload, currentTarget]
      rw [hc]
    refine ⟨t, hexec, fun h1 h2 => absurd ⟨h1, h2⟩ hreturn, fun _ => ⟨?_, ?_, ?_, ?_⟩, fun other hne => ?_, hrest⟩
    · rw [hseq, hsample', drumSample_freeSeq, hc]
    · intro hd
      rw [hgovt, hevents]
      exact hstill hd
    · intro hd hp
      rw [hgovt, hevents]
      exact drumTripped_congr (by rw [hc]) (by rw [hc]) (htrip hd (by rw [hc]; exact hp))
    · intro hd hp
      have hu := hupdate hd (by rw [hc]; exact hp)
      rw [htarget] at hu
      rw [hgovt, hevents]
      rw [hc] at hu
      exact hu
    · rw [hgovt, hsample', drumSample_governor_ne hne, hgov]

/-! ### The SLURRY sample -/

/-- The dry test sets the dry deadline only. -/
theorem dryTest_eq (now : HeadTime) (t : SlurryPump) (alive : Bool) (flow : Nat) (suction : Int) (u : Sru) :
    dryTest now t alive flow suction u
      = { u with dryDeadline := (dryTest now t alive flow suction u).dryDeadline } := by
  unfold dryTest
  split
  · split <;> rfl
  · rfl

/-- With an ALIVE node the dry test is that of R102. -/
theorem dryTest_alive (now : HeadTime) (t : SlurryPump) (flow : Nat) (suction : Int) (u : Sru) :
    DryTested now t flow suction u.dryDeadline (dryTest now t true flow suction u).dryDeadline := by
  unfold dryTest DryTested
  by_cases hlow : flow < t.qMin ∨ suction < t.suctionMin
  · rw [if_pos hlow]
    refine ⟨fun _ => ?_, fun h1 h2 => by omega⟩
    cases hd : u.dryDeadline <;> simp [hd, after]
  · rw [if_neg hlow]
    exact ⟨fun h => absurd h hlow, fun _ _ => rfl⟩

/-- With a node that is not ALIVE no dry timer starts. -/
theorem dryTest_notAlive (now : HeadTime) (t : SlurryPump) (flow : Nat) (suction : Int) (u : Sru) :
    (dryTest now t false flow suction u).dryDeadline
      = if t.qMin ≤ flow ∧ t.suctionMin ≤ suction then none else u.dryDeadline := by
  unfold dryTest
  by_cases hlow : flow < t.qMin ∨ suction < t.suctionMin
  · have hnot : ¬(t.qMin ≤ flow ∧ t.suctionMin ≤ suction) := by omega
    rw [if_pos hlow, if_neg hnot]
    rfl
  · have hok : t.qMin ≤ flow ∧ t.suctionMin ≤ suction := by omega
    rw [if_neg hlow, if_pos hok]

/-- The pump with a sample taken, before the dry test: RUN from PRIME at a flow of at least q_min (R101). -/
def primed (t : SlurryPump) (flow : Nat) (u : Sru) : Sru :=
  { u with
    pump := if u.pump = .prime ∧ t.qMin ≤ flow then .run else u.pump
    primeDeadline := if u.pump = .prime ∧ t.qMin ≤ flow then none else u.primeDeadline }

/-- The pump stage: the prime test, then the dry test in RUN. -/
theorem pumpStage_eq (now : HeadTime) (t : SlurryPump) (alive : Bool) (flow : Nat) (suction : Int) (u : Sru) :
    pumpStage now t alive flow suction u
      = if (primed t flow u).pump = .run then dryTest now t alive flow suction (primed t flow u) else primed t flow u := by
  cases u with | mk pump =>
  cases pump with
  | prime => by_cases hq : t.qMin ≤ flow <;> simp [pumpStage, primed, hq]
  | run | off | trip | lockout => simp [pumpStage, primed]

/-- What an account update may change. -/
theorem accountUpdate_rest (cut returned : Nat) (s : State) :
    accountUpdate cut returned s
      = { s with
          sru := (accountUpdate cut returned s).sru
          ulp := (accountUpdate cut returned s).ulp
          rpu := { s.rpu with events := (accountUpdate cut returned s).rpu.events } } := by
  apply State.eq_of_fields
  refine ⟨?_, ?_, ?_, ?_, ?_, ?_, rfl, ?_, ?_, ?_, rfl, ?_, ?_, ?_⟩
  case refine_10 => rw [accountUpdate_rpu]
  all_goals simp

/-- The unit after the pump stage of a sample, the solids the sample returns, and whether they are counted. -/
def stagedUnit (x : SlurrySample) (c : State) : Sru :=
  pumpStage c.headTime c.tst.active.slurry.pump (roleAlive .slurry c) (min 2000 x.flow) (clamp (-100) 1000 x.suction) c.sru

def returnedSolids (x : SlurrySample) (c : State) : Nat :=
  min 2000 x.flow * sinceLast c.headTime c.sru.prevSample
      * concentration x.density c.sru.supplyDensity c.tst.active.slurry.ground.solidsDensity
    + c.sru.residueR

def solidsCounted (x : SlurrySample) (c : State) : Bool :=
  decide ((stagedUnit x c).pump = .run) && roleAlive .slurry c

theorem stagedUnit_pump (x : SlurrySample) (c : State) :
    (stagedUnit x c).pump
        = (if c.sru.pump = .prime ∧ c.tst.active.slurry.pump.qMin ≤ min 2000 x.flow then .run else c.sru.pump)
      ∧ (stagedUnit x c).primeDeadline
        = (if c.sru.pump = .prime ∧ c.tst.active.slurry.pump.qMin ≤ min 2000 x.flow then none
            else c.sru.primeDeadline) := by
  rw [stagedUnit, pumpStage_eq]
  split
  · rw [dryTest_eq]
    exact ⟨rfl, rfl⟩
  · exact ⟨rfl, rfl⟩

/-- The pump stage leaves all but the pump's state and timers. -/
theorem stagedUnit_eq (x : SlurrySample) (c : State) :
    stagedUnit x c
      = { c.sru with
          pump := (stagedUnit x c).pump
          primeDeadline := (stagedUnit x c).primeDeadline
          dryDeadline := (stagedUnit x c).dryDeadline } := by
  rw [stagedUnit, pumpStage_eq]
  split
  · rw [dryTest_eq]
    rfl
  · rfl

/-- The dry deadline after the pump stage. -/
theorem stagedUnit_dry (x : SlurrySample) (c : State) :
    ((stagedUnit x c).pump = .run → roleAlive .slurry c = true →
        DryTested c.headTime c.tst.active.slurry.pump (min 2000 x.flow) (clamp (-100) 1000 x.suction) c.sru.dryDeadline
          (stagedUnit x c).dryDeadline)
      ∧ ((stagedUnit x c).pump = .run → roleAlive .slurry c = false →
          (stagedUnit x c).dryDeadline
            = if c.tst.active.slurry.pump.qMin ≤ min 2000 x.flow
                  ∧ c.tst.active.slurry.pump.suctionMin ≤ clamp (-100) 1000 x.suction then none
              else c.sru.dryDeadline)
      ∧ ((stagedUnit x c).pump ≠ .run → (stagedUnit x c).dryDeadline = c.sru.dryDeadline) := by
  have hpump : (stagedUnit x c).pump = (primed c.tst.active.slurry.pump (min 2000 x.flow) c.sru).pump :=
    (stagedUnit_pump x c).1
  rw [hpump]
  have hdry : (primed c.tst.active.slurry.pump (min 2000 x.flow) c.sru).dryDeadline = c.sru.dryDeadline := rfl
  rw [stagedUnit, pumpStage_eq]
  refine ⟨fun hr ha => ?_, fun hr ha => ?_, fun hr => ?_⟩
  · rw [if_pos hr, ha, ← hdry]
    exact dryTest_alive _ _ _ _ _
  · rw [if_pos hr, ha, ← hdry]
    exact dryTest_notAlive _ _ _ _ _
  · rw [if_neg hr, hdry]

theorem slurrySample_eq (x : SlurrySample) (c : State) :
    slurrySample x c
      = accountUpdate 0 (if solidsCounted x c then returnedSolids x c / 10000 else 0)
          (c.setSru
            { stagedUnit x c with
              prevSample := some c.headTime
              residueR := if solidsCounted x c then returnedSolids x c % 10000 else c.sru.residueR }) := by
  have hstaged := stagedUnit_eq x c
  have hprev : (stagedUnit x c).prevSample = c.sru.prevSample := by rw [hstaged]
  have hres : (stagedUnit x c).residueR = c.sru.residueR := by rw [hstaged]
  have hsupply : (stagedUnit x c).supplyDensity = c.sru.supplyDensity := by rw [hstaged]
  rw [returnedSolids, ← hprev, ← hres, ← hsupply, ← elapsed_eq]
  rfl

/-- The solids a sample takes from the account. -/
def solidsTaken (x : SlurrySample) (c : State) : Nat := if solidsCounted x c then returnedSolids x c / 10000 else 0

/-- The unit after a SLURRY sample, its account settled. -/
theorem slurrySample_sru (x : SlurrySample) (c : State) :
    (slurrySample x c).sru
      = { c.sru with
          pump := (stagedUnit x c).pump
          primeDeadline := (stagedUnit x c).primeDeadline
          dryDeadline := (stagedUnit x c).dryDeadline
          prevSample := some c.headTime
          account := min (c.sru.account - solidsTaken x c) c.tst.active.slurry.ground.accountMax
          residueR := if solidsCounted x c then returnedSolids x c % 10000 else c.sru.residueR
          level :=
            levelAfter c.tst.active.slurry.levels
              (min (c.sru.account - solidsTaken x c) c.tst.active.slurry.ground.accountMax) c.sru.level
          held := (slurrySample x c).sru.held
          refreshDeadline := (slurrySample x c).sru.refreshDeadline } := by
  rw [slurrySample_eq, accountUpdate_sru]
  unfold updatedLevel accountAfter
  rw [State.setSru_sru, State.setSru_tst, stagedUnit_eq]
  rfl

/-- The events and the feed hold after a SLURRY sample. -/
theorem slurrySample_level (x : SlurrySample) (c : State) :
    (slurrySample x c).rpu.events
        = (if (slurrySample x c).sru.level = c.sru.level then c.rpu.events
            else postEntry c.headTime .level .sru (slurrySample x c).sru.level c.rpu.events)
      ∧ HoldTested c (slurrySample x c).sru.level (slurrySample x c).sru.held (slurrySample x c).sru.refreshDeadline
          (slurrySample x c).ulp.feedHold := by
  rw [slurrySample_eq]
  obtain ⟨q, hq⟩ : ∃ q : State, q = c.setSru
      { stagedUnit x c with
        prevSample := some c.headTime
        residueR := if solidsCounted x c then returnedSolids x c % 10000 else c.sru.residueR } := ⟨_, rfl⟩
  obtain ⟨n, hn⟩ : ∃ n, n = if solidsCounted x c then returnedSolids x c / 10000 else 0 := ⟨_, rfl⟩
  have hsru := stagedUnit_eq x c
  have hqlevel : q.sru.level = c.sru.level := by rw [hq, State.setSru_sru, hsru]
  have hqheld : q.sru.held = c.sru.held := by rw [hq, State.setSru_sru, hsru]
  have hqrefresh : q.sru.refreshDeadline = c.sru.refreshDeadline := by rw [hq, State.setSru_sru, hsru]
  have hlevel : (accountUpdate 0 n q).sru.level = updatedLevel 0 n q := by rw [accountUpdate_sru]
  rw [← hq, ← hn, hlevel]
  refine ⟨?_, ?_⟩
  · rw [accountUpdate_rpu, hqlevel]
    rw [hq]
    rfl
  · exact holdTested_congr (by rw [hq]; rfl) (by rw [hq]; rfl) hqheld hqrefresh (by rw [hq]; rfl)
      (accountUpdate_tested 0 n q)

/-- Settles O35. -/
theorem slurrySampleSettlesAccount : Obligations.SlurrySampleSettlesAccount := by
  unfold Obligations.SlurrySampleSettlesAccount
  intro s chars payload told posted sample flow returned suction h hsample hflow hsuction hreturned
  obtain ⟨late, b, c, y, t, hc, hy, hexec, ht, hslots, hfeed⟩ := exec_sampleComes h
  have hy' : y = slurrySample sample c := by
    rw [hy, hsample]
    cases told <;> rfl
  have halive : roleAlive .slurry { s with sbm := t.sbm } = roleAlive .slurry c :=
    roleAlive_congr (by rw [hc]; exact hslots) (by rw [hc]) _
  have hctime : c.headTime = s.headTime := by rw [hc]
  have hctst : c.tst = s.tst := by rw [hc]
  have hcsru : c.sru = s.sru := by rw [hc]
  have hcevents : c.rpu.events = posted := by rw [hc]
  have hcfeed : c.ulp.feedHold = s.ulp.feedHold := by rw [hc]; rfl
  have hsolids : returnedSolids sample c = returned := by rw [returnedSolids, hctime, hctst, hcsru, hreturned, hflow]
  have hclamp : clamp (-100) 1000 sample.suction = suction := hsuction.symm
  have htsru : t.sru = y.sru := by rw [ht]
  have htevents : t.rpu.events = y.rpu.events := by rw [ht]
  obtain ⟨hpump, hprime⟩ := stagedUnit_pump sample c
  obtain ⟨hdry, hdryNot, hdryOff⟩ := stagedUnit_dry sample c
  have hsru := slurrySample_sru sample c
  obtain ⟨hevents, htested⟩ := slurrySample_level sample c
  rw [← hy', hctime, hcevents, hcsru, ← htsru, ← htevents] at hevents
  rw [← hy', ← htsru, ← hfeed] at htested
  rw [← hy', ← htsru, hctime, hctst, hcsru, hsolids] at hsru
  rw [hctst, hcsru, ← hflow] at hpump hprime
  rw [hctime, hctst, hcsru, ← hflow, hclamp, ← halive] at hdry
  rw [hctst, hcsru, ← hflow, hclamp, ← halive] at hdryNot
  rw [hcsru] at hdryOff
  have htpump : t.sru.pump = (stagedUnit sample c).pump := by rw [hsru]
  have htprime : t.sru.primeDeadline = (stagedUnit sample c).primeDeadline := by rw [hsru]
  have htdry : t.sru.dryDeadline = (stagedUnit sample c).dryDeadline := by rw [hsru]
  have haccount : t.sru.account = min (s.sru.account - solidsTaken sample c) s.tst.active.slurry.ground.accountMax := by
    rw [hsru]
  have hresidue : t.sru.residueR = if solidsCounted sample c then returned % 10000 else s.sru.residueR := by rw [hsru]
  have hlevel : t.sru.level = levelAfter s.tst.active.slurry.levels t.sru.account s.sru.level := by rw [hsru]
  have hcounted : t.sru.pump = .run → roleAlive .slurry { s with sbm := t.sbm } = true → solidsCounted sample c = true := by
    intro hr ha
    rw [solidsCounted, ← htpump, ← halive, hr, ha]
    rfl
  have hnotCounted : t.sru.pump ≠ .run ∨ roleAlive .slurry { s with sbm := t.sbm } = false →
      solidsCounted sample c = false := by
    rw [solidsCounted, ← htpump, ← halive]
    rintro (hr | ha)
    · simp [hr]
    · simp [ha]
  have hleft : solidsCounted sample c = false →
      t.sru.account = min s.sru.account s.tst.active.slurry.ground.accountMax ∧ t.sru.residueR = s.sru.residueR := by
    intro hno
    rw [haccount, hresidue, solidsTaken, hno]
    exact ⟨rfl, rfl⟩
  rw [← htpump] at hpump hdry hdryNot hdryOff
  rw [← htdry] at hdry hdryNot hdryOff
  refine ⟨t, hexec, hpump, htprime.trans hprime, fun hr ha => ⟨hdry hr ha, ?_, ?_⟩,
    fun hr ha => ⟨hdryNot hr ha, hleft (hnotCounted (.inr ha))⟩,
    fun hr => ⟨hdryOff hr, hleft (hnotCounted (.inl hr))⟩, hlevel, fun hne => ?_, fun hsame => ?_, ?_, ?_⟩
  · rw [haccount, solidsTaken, hcounted hr ha, hsolids]
    rfl
  · rw [hresidue, hcounted hr ha]
    rfl
  · rw [hevents, if_neg hne]
    exact postEntry_posted _ _ _ _ _
  · rw [hevents, if_pos hsame]
  · exact holdTested_congr (by rw [hctst]) hctime (by rw [hcsru]) (by rw [hcsru]) hcfeed htested
  · have hyrest := accountUpdate_rest 0 (if solidsCounted sample c then returnedSolids sample c / 10000 else 0)
      (c.setSru
        { stagedUnit sample c with
          prevSample := some c.headTime
          residueR := if solidsCounted sample c then returnedSolids sample c % 10000 else c.sru.residueR })
    rw [← slurrySample_eq, ← hy'] at hyrest
    have hfull : t = { s with
        sbm := t.sbm, ulp := t.ulp, rpu := { s.rpu with events := t.rpu.events }, sru := t.sru } := by
      rw [htevents, htsru]
      refine ht.trans ?_
      rw [hyrest, hc]
      rfl
    refine hfull.trans ?_
    rw [hsru]

end Sys2Proof.Machine

namespace Sys2Proof.Machine

open Sys2Proof.Safety

/-! SUPPORT. The FLAP sample, the checks of a response, the ends of accesses and failures (R123, R128, R129, R135 to R139,
R146). -/

/-! ### Plates -/

/-- A decision as the state stands is one while the link is ONLINE, and none else. -/
theorem decideFor_decided (s : State) (id : PlateId) (p : Plate) : DecidedWhileOnline s id p (decideFor s id p) := by
  refine ⟨fun h => decideFor_frozen s id p h, fun h => ?_⟩
  rw [decideFor_online s id p h]
  exact decidePlate_decided _ _ _ _

/-- No decision takes a plate out of feedback. -/
theorem decidePlate_state (now : HeadTime) (t : SteeringParams) (target : Nat) {p : Plate} (h : p.state ≠ .nofb) :
    (decidePlate now t target p).state ≠ .nofb := by
  obtain ⟨state, position, stroke, bar, latch⟩ := p
  cases state <;> cases position <;> simp [decidePlate, turnOff, plateMotion] at h ⊢
  all_goals
    repeat' split
    all_goals simp [startMotion, motionState]
    all_goals split <;> simp

theorem decideFor_state (s : State) (id : PlateId) {p : Plate} (h : p.state ≠ .nofb) : (decideFor s id p).state ≠ .nofb := by
  unfold decideFor
  split
  · exact h
  · exact decidePlate_state _ _ _ h

/-- A plate with its position of a FLAP sample stored. -/
def positioned (v : Quad Nat) (id : PlateId) (p : Plate) : Plate := { p with position := some (min 1000 (v.get id)) }

/-- A plate after the notice that the FLAP node is ALIVE. -/
def plateReturned (s : State) (id : PlateId) (p : Plate) : Plate :=
  if p.state = .nofb then
    if p.stuckLatch then { p with state := .stuck } else decideFor s id { p with state := .hold }
  else p

theorem platesAfterSample_get (s : State) (v : Quad Nat) (q : Quad Plate) (id : PlateId) :
    (platesAfterSample s v q).get id = decideFor s id (positioned v id (q.get id)) := by
  simp [platesAfterSample, storePositions, positioned]

theorem platesAfterAlive_get (s : State) (q : Quad Plate) (id : PlateId) :
    (platesAfterAlive s q).get id = plateReturned s id (q.get id) := by
  simp [platesAfterAlive, plateReturned]

theorem plateReturned_of_ne {s : State} {id : PlateId} {p : Plate} (h : p.state ≠ .nofb) : plateReturned s id p = p :=
  if_neg h

theorem plateReturned_stuck {s : State} {id : PlateId} {p : Plate} (h : p.state = .nofb) (hl : p.stuckLatch = true) :
    plateReturned s id p = { p with state := .stuck } := (if_pos h).trans (if_pos hl)

theorem plateReturned_hold {s : State} {id : PlateId} {p : Plate} (h : p.state = .nofb) (hl : p.stuckLatch = false) :
    plateReturned s id p = decideFor s id { p with state := .hold } := (if_pos h).trans (if_neg (by simp [hl]))

theorem plateReturned_latch (s : State) (id : PlateId) (p : Plate) :
    (plateReturned s id p).stuckLatch = p.stuckLatch ∧ (plateReturned s id p).position = p.position := by
  unfold plateReturned
  split
  · split
    · exact ⟨rfl, rfl⟩
    · exact ⟨(decideFor_keeps s id _).2.1, (decideFor_keeps s id _).1⟩
  · exact ⟨rfl, rfl⟩

theorem inEitherOrder_cases {α : Type} [DecidableEq α] (first : Bool) (f g : α → α) (a : α) :
    inEitherOrder first f g a = g (f a) ∨ inEitherOrder first f g a = f (g a) := by
  unfold inEitherOrder
  split
  · exact .inl rfl
  · split
    · exact .inl rfl
    · exact .inr rfl

/-- A plate after a FLAP sample: without a notice, with the notice before it, or after it. -/
theorem flapPlate_cases (told : Bool) (payload : List Byte) (c : State) :
    (told = false ∧ ∀ id, (sampleTaken told .flap payload c).pps.plates.get id
        = decideFor c id (positioned (flapOf payload) id (c.pps.plates.get id)))
      ∨ (told = true ∧ ∀ id, (sampleTaken told .flap payload c).pps.plates.get id
          = decideFor c id (positioned (flapOf payload) id (plateReturned c id (c.pps.plates.get id))))
      ∨ (told = true ∧ ∀ id, (sampleTaken told .flap payload c).pps.plates.get id
          = plateReturned c id (decideFor c id (positioned (flapOf payload) id (c.pps.plates.get id)))) := by
  cases told with
  | false => exact .inl ⟨rfl, fun id => platesAfterSample_get c _ _ id⟩
  | true =>
    have hplates : (sampleTaken true .flap payload c).pps.plates
        = inEitherOrder (Config.noticeBeforeSample c.freeSeq) (platesAfterAlive c) (platesAfterSample c (flapOf payload))
            c.pps.plates := rfl
    rw [hplates]
    obtain h | h := inEitherOrder_cases (Config.noticeBeforeSample c.freeSeq) (platesAfterAlive c)
      (platesAfterSample c (flapOf payload)) c.pps.plates
    · refine .inr (.inl ⟨rfl, fun id => ?_⟩)
      rw [h, platesAfterSample_get, platesAfterAlive_get]
    · refine .inr (.inr ⟨rfl, fun id => ?_⟩)
      rw [h, platesAfterAlive_get, platesAfterSample_get]

/-- What a FLAP sample may change. -/
theorem sampleTaken_flap_rest (told : Bool) (payload : List Byte) (c : State) :
    sampleTaken told .flap payload c
      = { c with
          pps := { c.pps with plates := (sampleTaken told .flap payload c).pps.plates }
          freeSeq := if told then c.freeSeq + 1 else c.freeSeq } := by
  cases told <;> rfl

/-- Settles O36. -/
theorem flapSampleStoresPositions : Obligations.FlapSampleStoresPositions := by
  unfold Obligations.FlapSampleStoresPositions
  intro s chars payload told posted h
  obtain ⟨late, b, c, y, t, hc, hy, hexec, ht, -, -⟩ := exec_sampleComes h
  have hyrest := sampleTaken_flap_rest told payload c
  have hcases := flapPlate_cases told payload c
  rw [← hy] at hyrest hcases
  have hplates : c.pps.plates = s.pps.plates := by rw [hc]
  have htplates : t.pps.plates = y.pps.plates := by rw [ht]
  have hdecided : ∀ id p, DecidedWhileOnline s id p (decideFor c id p) := by
    intro id p
    have hd := decideFor_decided c id p
    rw [hc] at hd ⊢
    exact hd
  refine ⟨t, hexec, ?_, ?_⟩
  · rintro id p q new hp hq rfl
    rw [htplates] at hq
    obtain ⟨hposition, hlatch, hkept⟩ := decideFor_keeps c id (positioned (flapOf payload) id p)
    rw [hplates] at hcases
    rcases hcases with ⟨htold, he⟩ | ⟨htold, he⟩ | ⟨htold, he⟩
    all_goals
      have he := he id
      rw [← hp, ← hq] at he
    · rw [he]
      exact ⟨hposition, hlatch, fun _ => hdecided _ _, fun hc => absurd hc (by simp [htold])⟩
    · obtain ⟨hreturned, -⟩ := plateReturned_latch c id p
      obtain ⟨hposition', hlatch', hkept'⟩ := decideFor_keeps c id (positioned (flapOf payload) id (plateReturned c id p))
      rw [← he] at hposition' hlatch' hkept'
      refine ⟨hposition', hlatch'.trans hreturned, fun hno => ?_, fun _ hnofb => ⟨fun hl => ?_, fun hl => .inr ?_⟩⟩
      · rw [plateReturned_of_ne (hno.resolve_left (by simp [htold]))] at he
        rw [he]
        exact hdecided _ _
      · rw [plateReturned_stuck hnofb hl] at hkept'
        exact hkept' (.inl rfl)
      · rw [plateReturned_hold hnofb hl] at he
        rw [he]
        exact ⟨_, hdecided id { p with state := .hold }, hdecided _ _⟩
    · obtain ⟨hreturned, hplace⟩ := plateReturned_latch c id (decideFor c id (positioned (flapOf payload) id p))
      rw [← he] at hreturned hplace
      refine ⟨hplace.trans hposition, hreturned.trans hlatch, fun hno => ?_, fun _ hnofb => ?_⟩
      · have hstate := hno.resolve_left (by simp [htold])
        rw [plateReturned_of_ne (decideFor_state c id (p := positioned (flapOf payload) id p) hstate)] at he
        rw [he]
        exact hdecided _ _
      · rw [hkept (.inr hnofb)] at he
        refine ⟨fun hl => ?_, fun hl => .inl ?_⟩
        · exact he.trans (plateReturned_stuck (p := positioned (flapOf payload) id p) hnofb hl)
        · rw [he, plateReturned_hold (p := positioned (flapOf payload) id p) hnofb hl]
          exact hdecided _ _
  · rw [htplates]
    refine ht.trans ?_
    rw [hyrest, hc]

/-! ### Responses -/

/-- The characters of a response, in the order of the layout. -/
theorem gatherResponse_layout (a k l c : BusChar) (payload extra : List BusChar) (h : payload.length = l.data.toNat) :
    gatherResponse (a :: k :: l :: (payload ++ c :: extra))
        = some ⟨a, k :: l :: (payload ++ [c]), k.data, l.data, payload.map (fun x => x.data), c.data⟩
      ∧ gatherResponse (a :: k :: l :: payload) = none := by
  constructor
  · simp [gatherResponse, ← h, List.take_append]
  · simp [gatherResponse, ← h]

theorem lengthFits_iff (x : Serving) (len : Nat) : lengthFits x len = true ↔ RightLength x len := by
  cases x with
  | slot num role relayBad noRelay orphan => cases role <;> simp [lengthFits, RightLength]
  | access a => simp [lengthFits, RightLength]

theorem requestKind_eq (x : Serving) : requestKind x = kindOf x := by
  cases x with
  | slot num role relayBad noRelay orphan => rfl
  | access a => cases h : a.op <;> simp [requestKind, kindOf, h]

theorem registerDiffers_iff (x : Serving) (payload : List Byte) :
    registerDiffers x payload = true ↔ ∃ a, x = .access a ∧ payload.head? ≠ some a.register := by
  cases x <;> simp [registerDiffers]

theorem carriesStatus_iff (x : Serving) :
    carriesStatus x = true ↔ ∃ num role relayBad noRelay orphan, x = .slot num role relayBad noRelay orphan ∧ role ≠ .aux := by
  cases x with
  | slot num role relayBad noRelay orphan =>
    simp only [carriesStatus, decide_eq_true_eq]
    exact ⟨fun h => ⟨num, role, relayBad, noRelay, orphan, rfl, h⟩, fun ⟨_, _, _, _, _, he, h⟩ => by cases he; exact h⟩
  | access a => simp [carriesStatus]

/-- Each check that fails adds its tag. -/
theorem responseTags_spec (tx : Transaction) (r : Response) :
    (responseTags tx r).timeout = false
      ∧ ((responseTags tx r).addrMismatch = true ↔
          r.addressChar.marker = false ∨ r.addressChar.data.toNat ≠ tx.address)
      ∧ ((responseTags tx r).length = true ↔
          r.kind ≠ kindOf tx.serving ∨ ¬RightLength tx.serving r.length.toNat ∨ (∃ c ∈ r.later, c.marker = true)
            ∨ ∃ a, tx.serving = .access a ∧ r.payload.head? ≠ some a.register)
      ∧ ((responseTags tx r).crc = true ↔
          crc8 (r.kind :: r.length :: r.payload) ≠ r.crc ∨ r.addressChar.stop = false ∨ ∃ c ∈ r.later, c.stop = false)
      ∧ ((responseTags tx r).nodeFault = true ↔
          (responseTags tx r).addrMismatch = false ∧ (responseTags tx r).length = false
            ∧ (responseTags tx r).crc = false ∧ r.payload.getLast? ≠ some 0#8
            ∧ ∃ num role relayBad noRelay orphan,
                tx.serving = .slot num role relayBad noRelay orphan ∧ role ≠ .aux) := by
  refine ⟨rfl, ?_, ?_, ?_, ?_⟩
  · simp [responseTags]
  · have hfits : (!lengthFits tx.serving r.length.toNat) = true ↔ ¬RightLength tx.serving r.length.toNat := by
      rw [← lengthFits_iff, Bool.not_eq_true', Bool.not_eq_true]
    simp only [responseTags, Bool.or_eq_true, decide_eq_true_eq, requestKind_eq, hfits, registerDiffers_iff, List.any_eq_true,
      or_assoc]
  · simp only [responseTags, Bool.or_eq_true, decide_eq_true_eq, Bool.not_eq_true', List.any_eq_true, or_assoc]
  · rw [← carriesStatus_iff]
    simp only [responseTags, Bool.and_eq_true, Bool.not_eq_true', decide_eq_true_eq, and_assoc]
    constructor
    · rintro ⟨ha, hl, hc, hs, hlast⟩
      exact ⟨ha, hl, hc, hlast, hs⟩
    · rintro ⟨ha, hl, hc, hlast, hs⟩
      exact ⟨ha, hl, hc, hs, hlast⟩

/-- The CRC-8 example of section 7.2, a byte at a time. -/
theorem crc8_sampleRequest : crc8 [0x01#8, 0x00#8] = 0x15#8 := by
  have hfirst : crc8Shift 8 0x01#8 = 0x07#8 := by decide
  have hsecond : crc8Shift 8 0x07#8 = 0x15#8 := by decide
  simp [crc8, hfirst, hsecond]

/-- Settles O37. -/
theorem responseIsCheckedAndRead : Obligations.ResponseIsCheckedAndRead := by
  unfold Obligations.ResponseIsCheckedAndRead
  refine ⟨gatherResponse_layout, responseTags_spec, fun tags => ?_, crc8_sampleRequest, ?_, ?_, ?_, ?_⟩
  · unfold tagCode
    refine ⟨fun h1 => ?_, fun h1 h2 => ?_, fun h1 h2 h3 => ?_, fun h1 h2 h3 h4 => ?_, fun h1 h2 h3 h4 h5 => ?_⟩
    all_goals simp [*]
  · intro x y w status hx hx' hy hy' hw hw'
    have he : inclOf (leInt 4 x ++ leInt 4 y ++ leInt 2 w ++ [status])
        = ⟨ofLeSigned (leInt 4 x), ofLeSigned (leInt 4 y), ofLeSigned (leInt 2 w)⟩ := rfl
    rw [he, ofLeSigned_leInt (by norm_num; omega) (by norm_num; omega),
      ofLeSigned_leInt (by norm_num; omega) (by norm_num; omega),
      ofLeSigned_leInt (by norm_num; omega) (by norm_num; omega)]
  · intro speed pressure direction t0 t1 status hs hp
    have he : drumOf (leBytes 2 speed ++ direction :: (leBytes 2 pressure ++ [t0, t1, status]))
        = ⟨ofLe (leBytes 2 speed), BitVec.ofNat 8 (ofLe [direction]), ofLe (leBytes 2 pressure)⟩ := rfl
    rw [he, ofLe_leBytes_of_lt hs, ofLe_leBytes_of_lt hp]
    simp [ofLe]
  · intro flow density suction p0 p1 status hf hd hs hs'
    have he : slurryOf (leBytes 2 flow ++ leBytes 2 density ++ leInt 2 suction ++ [p0, p1, status])
        = ⟨ofLe (leBytes 2 flow), ofLe (leBytes 2 density), ofLeSigned (leInt 2 suction)⟩ := rfl
    rw [he, ofLe_leBytes_of_lt hf, ofLe_leBytes_of_lt hd, ofLeSigned_leInt (by norm_num; omega) (by norm_num; omega)]
  · intro p1 p2 p3 p4 status h1 h2 h3 h4
    have he : flapOf (leBytes 2 p1 ++ leBytes 2 p2 ++ leBytes 2 p3 ++ leBytes 2 p4 ++ [status])
        = ⟨ofLe (leBytes 2 p1), ofLe (leBytes 2 p2), ofLe (leBytes 2 p3), ofLe (leBytes 2 p4)⟩ := rfl
    rw [he, ofLe_leBytes_of_lt h1, ofLe_leBytes_of_lt h2, ofLe_leBytes_of_lt h3, ofLe_leBytes_of_lt h4]

/-! ### The end of an access -/

/-- The end of an access answers it and asks the arbiter. -/
theorem endTransaction_access {tx : Transaction} {a : Access} (h : tx.serving = .access a) (tags : TagSet)
    (payload : List Byte) (s : State) :
    ∃ b, Granted s { s.sbm with bus := .idle, access := none } b
      ∧ endTransaction tx tags payload s
          = { s with
              sbm := b
              ulp :=
                { s.ulp with
                  answers :=
                    s.ulp.answers
                      ++ [⟨0x33#8, a.tag,
                        if isGood tags then .ok else if tags.timeout then .nodeTimeout else .nodeError,
                        accessPayload a (if isGood tags then field payload 1 2 else [0#8, 0#8])⟩] } } := by
  obtain ⟨e, he⟩ : ∃ e, e = endAccess a tags payload (s.setSbm { s.sbm with bus := .idle }) := ⟨_, rfl⟩
  have hbus : e.sbm = { s.sbm with bus := .idle, access := none } := by rw [he]; rfl
  have hgranted := arbitrate_granted e (by rw [hbus])
  rw [hbus] at hgranted
  refine ⟨(arbitrate e).sbm, granted_congr (by rw [he]; rfl) (by rw [he]; rfl) hgranted, ?_⟩
  have hend : endTransaction tx tags payload s = arbitrate e := by
    unfold endTransaction
    rw [h, he]
  rw [hend, arbitrate_eq]
  rw [he]
  rfl

theorem accessPayload_eq (a : Access) (value : List Byte) :
    accessPayload a value
      = BitVec.ofNat 8 a.address :: (if a.op = .read then 0#8 else 1#8) :: a.register :: value := by
  unfold accessPayload
  cases a.op <;> rfl

/-- A complete response ends its transaction. -/
theorem exec_response {s : State} {tx : Transaction} {deadline : HeadTime} {chars : List BusChar} {r : Response}
    (hb : s.sbm.bus = .response tx deadline) (hg : gatherResponse chars = some r) :
    exec (.responseComplete chars) s = .next (serveUplink (endTransaction tx (responseTags tx r) r.payload s)) := by
  rw [exec_responseComplete, receiveResponse, hb]
  simp only [hg]

/-- The response deadline ends its transaction. -/
theorem exec_responseTimeout {s : State} {tx : Transaction} {deadline : HeadTime} (hb : s.sbm.bus = .response tx deadline)
    (hreached : reached deadline s.headTime = true) :
    exec .responseTimeout s = .next (serveUplink (endTransaction tx timeoutTags [] s)) := by
  show Host.Outcome.next (serveUplink (responseExpiry s)) = _
  rw [responseExpiry, hb]
  exact congrArg (fun t => Host.Outcome.next (serveUplink t)) (if_pos hreached)

/-- Settles O38. -/
theorem accessIsAnswered : Obligations.AccessIsAnswered := by
  unfold Obligations.AccessIsAnswered
  intro s tx deadline a hb hs
  refine ⟨fun chars r hg => ?_, fun hreached => ?_⟩
  · obtain ⟨b, hgranted, he⟩ := endTransaction_access hs (responseTags tx r) r.payload s
    refine ⟨b, hgranted, ?_⟩
    rw [exec_response hb hg, he, accessPayload_eq]
    by_cases hgood : responseTags tx r = noTags
    · have hisGood : isGood (responseTags tx r) = true := decide_eq_true hgood
      rw [if_pos hisGood, if_pos hisGood, if_pos hgood, if_pos hgood]
      rfl
    · have hnotGood : ¬isGood (responseTags tx r) = true := by simpa [isGood] using hgood
      rw [if_neg hnotGood, if_neg hnotGood, if_neg hgood, if_neg hgood]
      rfl
  · obtain ⟨b, hgranted, he⟩ := endTransaction_access hs timeoutTags [] s
    refine ⟨b, hgranted, ?_⟩
    rw [exec_responseTimeout hb hreached, he, accessPayload_eq]
    rfl

/-! ### Failures -/

section
variable {role : Role} {s : State}

theorem lostNotice_governor_of_ne {d : Drum} (h : role ≠ drumRole d) : (lostNotice role s).governor d = s.governor d := by
  cases role with
  | drumL =>
    cases d
    · exact absurd rfl h
    · rfl
  | drumR =>
    cases d
    · rfl
    · exact absurd rfl h
  | slurry | flap | inclA | inclB | aux => simp [lostNotice]

theorem lostNotice_governor (d : Drum) : (lostNotice (drumRole d) s).governor d = governorLost (s.governor d) := by
  cases d <;> rfl

theorem lostNotice_sru_of_ne (h : role ≠ .slurry) : (lostNotice role s).sru = s.sru := by
  cases role with
  | slurry => exact absurd rfl h
  | drumL | drumR | flap | inclA | inclB | aux => simp [lostNotice]

theorem lostNotice_pps_of_ne (h : role ≠ .flap) : (lostNotice role s).pps = s.pps := by
  cases role with
  | flap => exact absurd rfl h
  | drumL | drumR | slurry | inclA | inclB | aux => simp [lostNotice]

/-- What a notice of a lost node may change. -/
theorem lostNotice_rest (role : Role) (s : State) :
    lostNotice role s
      = { s with
          governorL := (lostNotice role s).governorL
          governorR := (lostNotice role s).governorR
          sru := (lostNotice role s).sru
          pps := { s.pps with plates := (lostNotice role s).pps.plates } } := by
  cases role <;> rfl

end

/-- The due time set, for a slot and its row. -/
theorem setDue_eq {num : Nat} {z : State} {x : Slot} {row : PollRow} (h1 : 1 ≤ num)
    (hx : z.sbm.slots[num - 1]? = some x) (hr : z.tst.active.poll.rows[num - 1]? = some row) :
    setDue num z
      = { z with
          sbm :=
            { z.sbm with
              slots := z.sbm.slots.set (num - 1) { x with due := (dueAfter z.headTime x.due row.period).1 } }
          ulp := withOverrun (dueAfter z.headTime x.due row.period).2 z.ulp } := by
  unfold setDue
  simp only [slotAt_eq _ _ h1, hx, hr, nextDue_eq, onSlot]
  rw [modify_set _ _ _ _ hx]
  unfold latchOverrun withOverrun
  cases (dueAfter z.headTime x.due row.period).2 <;> simp [State.setSbm, State.setUlp]

/-- The state with the bus idle and the failure of a slot counted, its node LOST at the lost limit. -/
def slotFailed (s : State) (num : Nat) (x : Slot) : State :=
  { s with
    sbm :=
      { s.sbm with
        bus := .idle
        slots :=
          s.sbm.slots.set (num - 1)
            ⟨x.due, min 15 (x.failures + 1),
              if s.tst.active.poll.params.lostLimit ≤ min 15 (x.failures + 1) then .lost else x.node⟩ } }

/-- Whether a failure makes a node LOST that was not. -/
def losesNode (s : State) (x : Slot) : Prop :=
  s.tst.active.poll.params.lostLimit ≤ min 15 (x.failures + 1) ∧ x.node ≠ .lost

/-- A failed slot whose node became LOST: posted. -/
def lossPosted (num : Nat) (tags : TagSet) (s : State) (x : Slot) : State :=
  post .nodeLost (.slot num) (tagCode tags) (slotFailed s num x)

/-- A failure is counted, and at the lost limit posted and told to the consumer. -/
theorem slotBad_eq {num : Nat} {role : Role} {tags : TagSet} {s : State} {x : Slot} (h1 : 1 ≤ num)
    (hx : s.sbm.slots[num - 1]? = some x) :
    (losesNode s x →
        slotBad num role tags (s.setSbm { s.sbm with bus := .idle }) = lostNotice role (lossPosted num tags s x))
      ∧ (¬losesNode s x → slotBad num role tags (s.setSbm { s.sbm with bus := .idle }) = slotFailed s num x) := by
  unfold slotBad lossPosted slotFailed
  simp only [slotAt_eq _ _ h1, State.setSbm_sbm, State.setSbm_tst, hx, onSlot]
  rw [modify_set _ _ _ _ hx, modify_set _ _ _ _ hx]
  refine ⟨fun hlost => ?_, fun hlost => ?_⟩
  · rw [if_pos hlost.1]
    exact if_pos hlost
  · refine (if_neg hlost).trans ?_
    by_cases hlimit : s.tst.active.poll.params.lostLimit ≤ min 15 (x.failures + 1)
    · have hnode : x.node = .lost := by
        by_contra hn
        exact hlost ⟨hlimit, hn⟩
      rw [if_pos hlimit, ← hnode]
      rfl
    · rw [if_neg hlimit]
      rfl

/-- What a counted failure does outside the bus and the port: the post, and the notice to the consumer of a node that
became LOST (R70, R103, R128, R139). -/
structure FailureTold (num : Nat) (role : Role) (tags : TagSet) (lost : Prop) (s w : State) : Prop where
  posted : lost → Posted s.headTime .nodeLost (.slot num) (tagCode tags : Int) s.rpu.events w.rpu.events
  notPosted : ¬lost → w.rpu.events = s.rpu.events
  governor : lost → ∀ d, role = drumRole d → w.governor d = governorLost (s.governor d)
  governorKept : ∀ d, ¬lost ∨ role ≠ drumRole d → w.governor d = s.governor d
  sru : lost → role = .slurry → w.sru = { s.sru with dryDeadline := none }
  sruKept : ¬lost ∨ role ≠ .slurry → w.sru = s.sru
  plates : lost → role = .flap → w.pps.plates = platesAfterLost s s.pps.plates
  platesKept : ¬lost ∨ role ≠ .flap → w.pps = s.pps
  rest : w
    = { s with
        sbm := w.sbm
        rpu := { s.rpu with events := w.rpu.events }
        governorL := w.governorL
        governorR := w.governorR
        sru := w.sru
        pps := { s.pps with plates := w.pps.plates } }

/-- A failure that does not lose the node is told to no consumer. -/
theorem failureTold_of_kept {num : Nat} {role : Role} {tags : TagSet} {lost : Prop} {s : State} {x : Slot}
    (h : ¬lost) : FailureTold num role tags lost s (slotFailed s num x) where
  posted hl := absurd hl h
  notPosted _ := rfl
  governor hl := absurd hl h
  governorKept d _ := by cases d <;> rfl
  sru hl := absurd hl h
  sruKept _ := rfl
  plates hl := absurd hl h
  platesKept _ := rfl
  rest := rfl

/-- A failure that loses the node is posted and told. -/
theorem failureTold_of_lost {num : Nat} {role : Role} {tags : TagSet} {lost : Prop} {s : State} {x : Slot}
    (h : lost) : FailureTold num role tags lost s (lostNotice role (lossPosted num tags s x)) := by
  obtain ⟨z, hz⟩ : ∃ z, z = lossPosted num tags s x := ⟨_, rfl⟩
  have hzs : z = { s with sbm := z.sbm, rpu := { s.rpu with events := z.rpu.events } } := by
    rw [hz]
    rfl
  have hposted : Posted s.headTime .nodeLost (.slot num) (tagCode tags : Int) s.rpu.events z.rpu.events := by
    rw [hz]
    exact postEntry_posted _ _ _ _ _
  have hgov : ∀ d, z.governor d = s.governor d := fun d => by rw [hzs]; cases d <;> rfl
  have hsru : z.sru = s.sru := by rw [hzs]
  have hpps : z.pps = s.pps := by rw [hzs]
  have hrest := lostNotice_rest role z
  have hrpu := lostNotice_rpu role z
  rw [← hz]
  refine ⟨fun _ => hrpu ▸ hposted, fun hl => absurd h hl, fun _ d hrole => ?_, fun d hno => ?_, fun _ hrole => ?_,
    fun hno => ?_, fun _ hrole => ?_, fun hno => ?_, ?_⟩
  · rw [hrole, lostNotice_governor, hgov]
  · rw [lostNotice_governor_of_ne (hno.resolve_left (not_not.mpr h)), hgov]
  · rw [hrole, ← hsru]
    rfl
  · rw [lostNotice_sru_of_ne (hno.resolve_left (not_not.mpr h)), hsru]
  · rw [hrole, hzs]
    rfl
  · rw [lostNotice_pps_of_ne (hno.resolve_left (not_not.mpr h)), hpps]
  · obtain ⟨w, hw⟩ : ∃ w, w = lostNotice role z := ⟨_, rfl⟩
    rw [← hw] at hrest hrpu ⊢
    have hsbm : w.sbm = z.sbm := by rw [hrest]
    rw [hrpu, hsbm]
    refine hrest.trans ?_
    rw [hzs]

/-- A failed slot, its bus idle: the slot counted, and the rest told. -/
theorem slotBad_told {num : Nat} {role : Role} {tags : TagSet} {s : State} {x : Slot} {lost : Prop} (h1 : 1 ≤ num)
    (hx : s.sbm.slots[num - 1]? = some x) (hlost : lost ↔ losesNode s x) :
    FailureTold num role tags lost s (slotBad num role tags (s.setSbm { s.sbm with bus := .idle }))
      ∧ (slotBad num role tags (s.setSbm { s.sbm with bus := .idle })).sbm = (slotFailed s num x).sbm := by
  obtain ⟨hloses, hkeeps⟩ := slotBad_eq (role := role) (tags := tags) h1 hx
  by_cases hl : lost
  · rw [hloses (hlost.mp hl)]
    refine ⟨failureTold_of_lost hl, ?_⟩
    rw [lostNotice_rest]
    rfl
  · rw [hkeeps (fun h => hl (hlost.mpr h))]
    exact ⟨failureTold_of_kept hl, rfl⟩

/-- The due time of a failed slot, from a state whose bus master, port, tables and time are those of the failure. -/
theorem setDue_slotFailed {s w : State} {num : Nat} {x : Slot} {row : PollRow} (h1 : 1 ≤ num)
    (hx : s.sbm.slots[num - 1]? = some x) (hr : s.tst.active.poll.rows[num - 1]? = some row)
    (hsbm : w.sbm = (slotFailed s num x).sbm) (hulp : w.ulp = s.ulp) (htst : w.tst = s.tst)
    (htime : w.headTime = s.headTime) :
    setDue num w
      = { w with
          sbm := slotServedBad s num x row
          ulp := withOverrun (dueAfter s.headTime x.due row.period).2 s.ulp } := by
  have hl : num - 1 < s.sbm.slots.length := (List.getElem?_eq_some_iff.mp hx).1
  have hslot : w.sbm.slots[num - 1]? = some ⟨x.due, min 15 (x.failures + 1),
      if s.tst.active.poll.params.lostLimit ≤ min 15 (x.failures + 1) then .lost else x.node⟩ := by
    rw [hsbm]
    exact List.getElem?_set_self hl
  rw [setDue_eq h1 hslot (by rw [htst]; exact hr), htime, hulp, hsbm]
  simp only [slotFailed, slotServedBad, List.set_set]

/-- A record relayed and the arbiter asked change the bus and the port only. -/
theorem arbitrate_relay_rest (num : Nat) (role : Role) (relayBad noRelay : Bool) (tags : TagSet) (payload : List Byte)
    (y : State) :
    arbitrate (relay num role relayBad noRelay tags payload y)
      = { y with
          sbm := (arbitrate (relay num role relayBad noRelay tags payload y)).sbm
          ulp := (relay num role relayBad noRelay tags payload y).ulp } := by
  apply State.eq_of_fields
  simp

/-- The grant and the record at the end of a failed slot transaction. -/
theorem failure_ends {num : Nat} {role : Role} {relayBad noRelay : Bool} {tags : TagSet} {payload : List Byte} {y : State}
    (hidle : y.sbm.bus = .idle) (hbad : tags ≠ noTags) :
    Granted y y.sbm (arbitrate (relay num role relayBad noRelay tags payload y)).sbm
      ∧ Relayed y num role relayBad noRelay tags (if tags.nodeFault then some payload else none) y.ulp
          (arbitrate (relay num role relayBad noRelay tags payload y)).ulp := by
  refine ⟨?_, ?_⟩
  · have hg := arbitrate_granted (relay num role relayBad noRelay tags payload y) (by simpa using hidle)
    rw [relay_sbm] at hg
    exact granted_congr (relay_tst _ _ _ _ _ _ _) (relay_headTime _ _ _ _ _ _ _) hg
  · have hr := relay_relayed y num role relayBad noRelay tags payload
    rw [arbitrate_ulp]
    simpa [hbad] using hr

/-- A transaction that fails: at its deadline or with a response that fails a check. -/
theorem exec_failure {s : State} {c : Instr} {tx : Transaction} {deadline : HeadTime} {tags : TagSet}
    {payload : Option (List Byte)} (hb : s.sbm.bus = .response tx deadline)
    (h : (c = .responseTimeout ∧ reached deadline s.headTime = true ∧ tags = timeoutTags ∧ payload = none)
      ∨ (∃ chars r, c = .responseComplete chars ∧ gatherResponse chars = some r ∧ tags = responseTags tx r
          ∧ tags ≠ noTags ∧ payload = if tags.nodeFault then some r.payload else none)) :
    tags ≠ noTags
      ∧ ∃ bytes, payload = (if tags.nodeFault then some bytes else none)
          ∧ exec c s = .next (serveUplink (endTransaction tx tags bytes s)) := by
  rcases h with ⟨rfl, hreached, rfl, rfl⟩ | ⟨chars, r, rfl, hg, rfl, hbad, rfl⟩
  · exact ⟨by decide, [], rfl, exec_responseTimeout hb hreached⟩
  · exact ⟨hbad, r.payload, rfl, exec_response hb hg⟩

theorem endTransaction_slot {tx : Transaction} {num : Nat} {role : Role} {relayBad noRelay orphan : Bool}
    (h : tx.serving = .slot num role relayBad noRelay orphan) {tags : TagSet} (hbad : tags ≠ noTags) (bytes : List Byte)
    (s : State) :
    endTransaction tx tags bytes s
      = arbitrate
          (relay num role relayBad noRelay tags bytes
            (if orphan then s.setSbm { s.sbm with bus := .idle }
              else setDue num (slotBad num role tags (s.setSbm { s.sbm with bus := .idle })))) := by
  have hnot : isGood tags = false := by simpa [isGood] using hbad
  unfold endTransaction endSlot endLiveSlot
  rw [h]
  simp only [hnot, Bool.false_eq_true, if_false]

/-- Settles O39: what is told at a failure, then the due time, the record and the grant. -/
theorem failureIsCounted : Obligations.FailureIsCounted := by
  unfold Obligations.FailureIsCounted
  refine ⟨?outside, ?counted, ?replaced⟩
  case outside =>
    intro s chars h
    rw [exec_responseComplete, receiveResponse]
    cases hb : s.sbm.bus with
    | response tx deadline => exact absurd hb (h tx deadline)
    | idle | request | quiet => rfl
  case counted =>
    intro s c tx deadline num role relayBad noRelay tags payload x row hb hs h1 hx hr hc lost hlost
    obtain ⟨hbad, bytes, hpayload, hexec⟩ := exec_failure hb hc
    obtain ⟨htold, hslot⟩ := slotBad_told (role := role) (tags := tags) h1 hx hlost
    obtain ⟨w, hw⟩ : ∃ w, w = slotBad num role tags (s.setSbm { s.sbm with bus := .idle }) := ⟨_, rfl⟩
    rw [endTransaction_slot hs hbad, if_neg Bool.false_ne_true, ← hw] at hexec
    rw [← hw] at htold hslot
    have hrest := htold.rest
    rw [setDue_slotFailed h1 hx hr hslot (by rw [hrest]) (by rw [hrest]) (by rw [hrest])] at hexec
    obtain ⟨y, hy⟩ : ∃ y : State, y =
        { w with
          sbm := slotServedBad s num x row
          ulp := withOverrun (dueAfter s.headTime x.due row.period).2 s.ulp } := ⟨_, rfl⟩
    have hytst : y.tst = s.tst := by rw [hy, hrest]
    have hytime : y.headTime = s.headTime := by rw [hy, hrest]
    obtain ⟨hgranted, hrelayed⟩ := failure_ends (num := num) (role := role) (relayBad := relayBad) (noRelay := noRelay)
      (payload := bytes) (y := y) (by rw [hy]; rfl) hbad
    rw [← hpayload] at hrelayed
    have hends := arbitrate_relay_rest num role relayBad noRelay tags bytes y
    rw [← hy] at hexec
    obtain ⟨t, ht⟩ : ∃ t, t = arbitrate (relay num role relayBad noRelay tags bytes y) := ⟨_, rfl⟩
    rw [← ht] at hexec hgranted hrelayed hends
    have hevents : t.rpu = w.rpu := by rw [hends, hy]
    have hsru : t.sru = w.sru := by rw [hends, hy]
    have hpps : t.pps = w.pps := by rw [hends, hy]
    have hgov : ∀ d, t.governor d = w.governor d := fun d => by rw [hends, hy]; cases d <;> rfl
    refine ⟨t, hexec, ?granted, ?relayed, fun hl => hevents ▸ htold.posted hl, fun hl => hevents ▸ htold.notPosted hl,
      fun d => ⟨fun hl hrole hactive => ?active, fun hstill => ?still⟩, fun hl hrole => hsru ▸ htold.sru hl hrole,
      fun hno => hsru ▸ htold.sruKept hno, fun hl hrole id => ?plates, fun hno => hpps ▸ htold.platesKept hno, ?rest⟩
    case granted =>
      have hbus : y.sbm = slotServedBad s num x row := by rw [hy]
      rw [hbus] at hgranted
      exact granted_congr hytst hytime hgranted
    case relayed =>
      have hport : y.ulp = withOverrun (dueAfter s.headTime x.due row.period).2 s.ulp := by rw [hy]
      rw [hport] at hrelayed
      exact relayed_congr hytst hytime hrelayed
    case active =>
      rw [hgov, htold.governor hl d hrole, governorLost_of_active hactive]
      rfl
    case still =>
      rw [hgov]
      by_cases hno : ¬lost ∨ role ≠ drumRole d
      · exact htold.governorKept d hno
      · obtain ⟨hl, hrole⟩ : lost ∧ role = drumRole d := by simpa [not_or] using hno
        rw [htold.governor hl d hrole, governorLost_of_still ((hstill.resolve_left (not_not.mpr hl)).resolve_left
          (not_not.mpr hrole))]
    case plates =>
      obtain ⟨-, hmoving, hstill⟩ := platesAfterLost_get s id
      rw [hpps, htold.plates hl hrole]
      refine ⟨?_, hmoving, hstill⟩
      by_cases hm : moving (s.pps.plates.get id) = true
      · exact (hmoving hm).1
      · rw [hstill (by simpa using hm)]
    case rest =>
      have hL : t.governorL = w.governorL := hgov .left
      have hR : t.governorR = w.governorR := hgov .right
      have hulp : t.ulp = (relay num role relayBad noRelay tags bytes y).ulp := by rw [ht, arbitrate_ulp]
      rw [hevents, hsru, hpps, hL, hR, hulp]
      refine hends.trans ?_
      rw [hy, hrest]
  case replaced =>
    intro s c tx deadline num role relayBad noRelay tags payload hb hs hc
    obtain ⟨hbad, bytes, hpayload, hexec⟩ := exec_failure hb hc
    rw [endTransaction_slot hs hbad, if_pos rfl] at hexec
    obtain ⟨hgranted, hrelayed⟩ := failure_ends (num := num) (role := role) (relayBad := relayBad) (noRelay := noRelay)
      (payload := bytes) (y := s.setSbm { s.sbm with bus := .idle }) rfl hbad
    rw [← hpayload] at hrelayed
    refine ⟨_, hexec, granted_congr rfl rfl hgranted, relayed_congr rfl rfl hrelayed, ?_⟩
    rw [arbitrate_ulp]
    exact arbitrate_relay_rest _ _ _ _ _ _ _

end Sys2Proof.Machine

namespace Sys2Proof.Machine

open Sys2Proof.Safety

/-! SUPPORT. The timers of the protected units, of the pump and feed hold, and of the plates (R83, R84, R101, R102, R112,
R121, R125). -/

/-! ### Off-times -/

/-- A unit restarts at the end of its off-time exactly under AUTO with its permit, the link ONLINE and its node ALIVE. -/
theorem expiryOutcome_restart {t : ProtectionParams} {p : Protection} {linkOnline nodeAlive : Bool} :
    expiryOutcome t p linkOnline nodeAlive = .restart
      ↔ t.policy = .auto ∧ p.permit = true ∧ linkOnline = true ∧ nodeAlive = true := by
  unfold expiryOutcome
  cases t.policy <;> cases p.permit <;> cases linkOnline <;> cases nodeAlive <;> cases p.latch <;> simp

/-- A unit waits at the end of its off-time exactly under HOLD with its latch set and its permit held. -/
theorem expiryOutcome_waiting {t : ProtectionParams} {p : Protection} {linkOnline nodeAlive : Bool} :
    expiryOutcome t p linkOnline nodeAlive = .waiting ↔ t.policy = .hold ∧ p.latch = true ∧ p.permit = true := by
  unfold expiryOutcome
  cases t.policy <;> cases p.permit <;> cases linkOnline <;> cases nodeAlive <;> cases p.latch <;> simp

/-- What the end of an off-time gives, chosen by the policy, is the choice among its three outcomes. -/
theorem expiryOutcome_cases {α : Type} (t : ProtectionParams) (p : Protection) (linkOnline nodeAlive : Bool) (a b c : α) :
    (match expiryOutcome t p linkOnline nodeAlive with
      | .restart => a
      | .waiting => b
      | .off => c)
      = if t.policy = .auto ∧ p.permit = true ∧ linkOnline = true ∧ nodeAlive = true then a
        else if t.policy = .hold ∧ p.latch = true ∧ p.permit = true then b
        else c := by
  have hrestart := expiryOutcome_restart (t := t) (p := p) (linkOnline := linkOnline) (nodeAlive := nodeAlive)
  have hwaiting := expiryOutcome_waiting (t := t) (p := p) (linkOnline := linkOnline) (nodeAlive := nodeAlive)
  cases hout : expiryOutcome t p linkOnline nodeAlive with
  | restart => exact (if_pos (hrestart.mp hout)).symm
  | waiting =>
    rw [hout] at hrestart
    exact ((if_neg fun h => nomatch hrestart.mpr h).trans (if_pos (hwaiting.mp hout))).symm
  | off =>
    rw [hout] at hrestart hwaiting
    exact ((if_neg fun h => nomatch hrestart.mpr h).trans (if_neg fun h => nomatch hwaiting.mpr h)).symm

theorem online_iff (s : State) : online s = true ↔ s.ulp.link = .online := by simp [online]

/-- The end of a drum's off-time, with the deadline reached. -/
theorem drumOffTimeExpiry_timing {d : Drum} {s : State} {deadline : HeadTime}
    (hg : (s.governor d).state = .trip (.timing deadline)) (hr : reached deadline s.headTime = true) :
    drumOffTimeExpiry d s
      = s.setGovernor d
          (if s.tst.active.drum.params.policy = .auto ∧ (s.governor d).prot.permit = true
                ∧ s.ulp.link = .online ∧ roleAlive (drumRole d) s = true then enterRun (s.governor d)
            else if s.tst.active.drum.params.policy = .hold ∧ (s.governor d).prot.latch = true
                ∧ (s.governor d).prot.permit = true then { s.governor d with state := .trip .waiting }
            else enterOff (s.governor d)) := by
  unfold drumOffTimeExpiry
  simp only [hg, hr, if_true]
  refine (expiryOutcome_cases _ _ _ _ _ _ _).trans ?_
  simp only [online_iff, apply_ite (s.setGovernor d)]
  rfl

/-- The end of the pump's off-time, with the deadline reached. -/
theorem pumpOffTimeExpiry_timing {s : State} {deadline : HeadTime} (hp : s.sru.pump = .trip (.timing deadline))
    (hr : reached deadline s.headTime = true) :
    pumpOffTimeExpiry s
      = s.setSru
          (if s.tst.active.slurry.pump.policy = .auto ∧ s.sru.prot.permit = true ∧ s.ulp.link = .online
                ∧ roleAlive .slurry s = true then enterPrime s.headTime s.tst.active.slurry s.sru
            else if s.tst.active.slurry.pump.policy = .hold ∧ s.sru.prot.latch = true
                ∧ s.sru.prot.permit = true then { s.sru with pump := .trip .waiting }
            else enterPumpOff s.sru) := by
  unfold pumpOffTimeExpiry
  simp only [hp, hr, if_true]
  refine (expiryOutcome_cases _ _ _ _ _ _ _).trans ?_
  simp only [online_iff, apply_ite s.setSru]
  rfl

/-- Settles O40, from the two off-time lemmas. -/
theorem offTimeExpiryRestartsOrWaits : Obligations.OffTimeExpiryRestartsOrWaits := by
  unfold Obligations.OffTimeExpiryRestartsOrWaits
  intro s deadline hr
  refine ⟨fun d hg => ?_, fun hp => ?_⟩
  · exact congrArg (fun t => Host.Outcome.next (serveUplink t)) (drumOffTimeExpiry_timing hg hr)
  · exact congrArg (fun t => Host.Outcome.next (serveUplink t)) (pumpOffTimeExpiry_timing hp hr)

/-! ### The pump and feed hold -/

/-- Settles O41: the prime and dry deadlines trip the pump, and the refresh deadline makes the hold again. -/
theorem slurryTimersExpire : Obligations.SlurryTimersExpire := by
  unfold Obligations.SlurryTimersExpire
  intro s deadline hr
  refine ⟨fun hp hd => ?_, fun hp hd => ?_, fun hh hd => ?_⟩
  · have hexpiry : primeExpiry s = tripPump .primeFail s := by simp [primeExpiry, hp, hd, expired, hr]
    exact ⟨_, congrArg (fun t => Host.Outcome.next (serveUplink t)) hexpiry, tripPump_tripped .primeFail s⟩
  · have hexpiry : dryExpiry s = tripPump .dryRun s := by simp [dryExpiry, hp, hd, expired, hr]
    exact ⟨_, congrArg (fun t => Host.Outcome.next (serveUplink t)) hexpiry, tripPump_tripped .dryRun s⟩
  · have hexpiry : refreshExpiry s = holdFeed s := by simp [refreshExpiry, hh, hd, expired, hr]
    have hheld : ({ s.sru with held := true } : Sru) = s.sru := by rw [← hh]
    refine (congrArg (fun t => Host.Outcome.next (serveUplink t)) hexpiry).trans ?_
    refine congrArg (fun t => Host.Outcome.next (serveUplink t)) ?_
    have hsru : ({ s.sru with
          held := true
          refreshDeadline := some (after s.headTime (s.tst.active.slurry.levels.holdTime / 2)) } : Sru)
        = { s.sru with refreshDeadline := some (after s.headTime (s.tst.active.slurry.levels.holdTime / 2)) } := by
      rw [← hh]
    unfold holdFeed makeFeedHold
    simp only [hsru]
    rfl

/-! ### The plates -/

/-- A position wants no motion exactly when it lies in the band of the target. -/
theorem wanted_eq_none {db pos target : Nat} :
    wanted db pos target = none ↔ target ≤ pos + db ∧ pos ≤ target + db := by
  unfold wanted
  by_cases hlow : pos + db < target
  · rw [if_pos hlow]
    exact iff_of_false (by simp) (by omega)
  by_cases hhigh : target + db < pos
  · rw [if_neg hlow, if_pos hhigh]
    exact iff_of_false (by simp) (by omega)
  · rw [if_neg hlow, if_neg hhigh]
    exact iff_of_true rfl (by omega)

/-- Whether a position lies in the band of the target of a plate: only while the link is ONLINE. -/
theorem inBand_plateTarget {s : State} {id : PlateId} {db pos : Nat} :
    inBand db (some pos) (plateTarget s id) = true
      ↔ s.ulp.link = .online ∧ targetOf s.pps.mode s.spl.targets s.pps.manualTargets id ≤ pos + db
          ∧ pos ≤ targetOf s.pps.mode s.spl.targets s.pps.manualTargets id + db := by
  rw [plateTarget_eq]
  by_cases h : s.ulp.link = .online
  · simp [inBand, h, wanted_eq_none]
  · simp [inBand, h]

/-- The stroke deadline of a moving plate, reached. -/
theorem strokeExpiry_due {id : PlateId} {s : State} {pos : Nat} {deadline : HeadTime}
    (hm : moving (s.pps.plates.get id) = true) (hpos : (s.pps.plates.get id).position = some pos)
    (hd : (s.pps.plates.get id).strokeDeadline = some deadline) (hr : reached deadline s.headTime = true) :
    strokeExpiry id s
      = if inBand s.tst.active.steering.params.deadband (some pos) (plateTarget s id) = true then
          setPlates s (s.pps.plates.set id
            (turnOff s.headTime s.tst.active.steering.params.reversalDwell .hold (s.pps.plates.get id)))
        else
          post .stuck (.plate id) pos
            (setPlates s (s.pps.plates.set id
              { turnOff s.headTime s.tst.active.steering.params.reversalDwell .stuck (s.pps.plates.get id) with
                stuckLatch := true })) := by
  unfold strokeExpiry
  simp only [plateMotion_isSome, hm, hd, expired, hr, hpos, Bool.and_self, if_true, Option.getD_some]

/-- The end of a dwell clears the bar, and a plate in HOLD has a decision. -/
theorem dwellExpiry_due {id : PlateId} {s : State} {b : Bar} (hb : (s.pps.plates.get id).bar = some b)
    (hr : reached b.deadline s.headTime = true) :
    dwellExpiry id s
      = setPlates s (s.pps.plates.set id
          (if (s.pps.plates.get id).state = .hold then decideFor s id { s.pps.plates.get id with bar := none }
            else { s.pps.plates.get id with bar := none })) := by
  unfold dwellExpiry
  simp only [hb, hr, if_true]

/-- Settles O42, by the place of the position against the band, and by the plate's state at the end of a dwell. -/
theorem plateTimersExpire : Obligations.PlateTimersExpire := by
  unfold Obligations.PlateTimersExpire
  rintro s id p t target rfl rfl rfl
  refine ⟨fun deadline pos hm hpos hd hr => ⟨fun hon hlow hhigh => ?_, fun hout => ?_⟩, fun b hb hr => ?_⟩
  · have hband := inBand_plateTarget.mpr ⟨hon, hlow, hhigh⟩
    have hexpiry := (strokeExpiry_due hm hpos hd hr).trans (if_pos hband)
    exact ⟨_, congrArg (fun t => Host.Outcome.next (serveUplink t)) hexpiry, turnOff_stopped _ _ _ _ hm⟩
  · have hband : ¬ inBand s.tst.active.steering.params.deadband (some pos) (plateTarget s id) = true := by
      rw [inBand_plateTarget]
      rintro ⟨hon, hlow, hhigh⟩
      rcases hout with h | h | h
      · exact h hon
      · omega
      · omega
    have hexpiry := (strokeExpiry_due hm hpos hd hr).trans (if_neg hband)
    obtain ⟨hstopped, -⟩ :=
      turnOff_stopped s.headTime s.tst.active.steering.params.reversalDwell .stuck (s.pps.plates.get id) hm
    exact ⟨_, _, congrArg (fun t => Host.Outcome.next (serveUplink t)) hexpiry, hstopped, rfl, postEntry_posted _ _ _ _ _⟩
  · refine ⟨_, congrArg (fun t => Host.Outcome.next (serveUplink t)) (dwellExpiry_due hb hr), ?_, ?_⟩
    · rintro (h | h)
      · exact if_neg h
      · rw [decideFor_frozen s id _ h, ite_self]
    · intro h hon
      rw [if_pos h, decideFor_online s id _ hon]
      exact decidePlate_decided _ _ _ _

end Sys2Proof.Machine

namespace Sys2Proof.Machine

open Sys2Proof.Safety

/-! SUPPORT. The arbiter of the uplink and the ends of its frames (R170, R179). -/

/-- An idle uplink outside HUNT sends the first source that has a frame. -/
theorem serveUplink_of_source {s : State} {x : UplinkSource} (hidle : s.ulp.uplink = .idle) (hlink : s.ulp.link ≠ .hunt)
    (hx : firstSource s = some x) : serveUplink s = startFrame (sourceFrame s x) (takeSource x s) := by
  unfold serveUplink
  rw [if_pos ⟨hidle, hlink⟩, hx]

/-- With no source that has a frame the uplink stays as it is. -/
theorem serveUplink_of_none {s : State} (hx : firstSource s = none) : serveUplink s = s := by
  unfold serveUplink
  rw [hx]
  exact ite_self s

/-- A readout after a LOG DATA frame: four records fewer, and none once they are all sent. -/
theorem readoutAfter_eq (r : Readout) :
    readoutAfter r = if r.remaining ≤ 4 then none else some ⟨r.next + 4, r.remaining - 4⟩ := by
  unfold readoutAfter chunk
  by_cases h : r.remaining ≤ 4
  · rw [Nat.min_eq_right h, if_pos h, if_pos (Nat.sub_self _)]
  · have hmin : min 4 r.remaining = 4 := Nat.min_eq_left (by omega)
    have hrest : ¬ r.remaining - 4 = 0 := by omega
    rw [hmin, if_neg h, if_neg hrest]

/-- The end of a frame that was being sent. -/
theorem frameEnd_sending {s : State} {frame : TxFrame} (ht : s.ulp.tx = some frame) (hu : s.ulp.uplink = .sending) :
    frameEnd s = s.setUlp { s.ulp with tx := none, uplink := if s.ulp.link = .hunt then .silent else .idle } := by
  unfold frameEnd
  rw [ht, hu]

/-- The end of a frame that a sync reply waited for. -/
theorem frameEnd_sync {s : State} {frame : TxFrame} (ht : s.ulp.tx = some frame) (hu : s.ulp.uplink = .sync) :
    frameEnd s = s.setUlp { s.ulp with tx := none } := by
  unfold frameEnd
  rw [ht, hu]

theorem frameEnd_none {s : State} (ht : s.ulp.tx = none) : frameEnd s = s := by
  unfold frameEnd
  rw [ht]

theorem syncReplyDone_sync {s : State} (ht : s.ulp.tx = none) (hu : s.ulp.uplink = .sync) :
    syncReplyDone s = s.setUlp { s.ulp with uplink := .idle } := if_pos ⟨hu, ht⟩

/-- Settles O43: the ends of frame and sync reply, then one case per source in the arbiter's order. -/
theorem uplinkSendsFirstSource : Obligations.UplinkSendsFirstSource := by
  unfold Obligations.UplinkSendsFirstSource
  refine ⟨fun s frame ht => ⟨fun hu => ?_, fun hu => ?_⟩, fun s ht => ⟨?_, fun hu => ?_⟩, fun s => ⟨fun h => ?_, ?_⟩⟩
  · exact congrArg (fun t => Host.Outcome.next (serveUplink t)) (frameEnd_sending ht hu)
  · refine (congrArg (fun t => Host.Outcome.next (serveUplink t)) (frameEnd_sync ht hu)).trans ?_
    exact congrArg Host.Outcome.next (serveUplink_busy _ (by simp [hu]))
  · exact congrArg (fun t => Host.Outcome.next (serveUplink t)) (frameEnd_none ht)
  · exact congrArg (fun t => Host.Outcome.next (serveUplink t)) (syncReplyDone_sync ht hu)
  · rcases h with h | h
    · exact serveUplink_busy s h
    · exact serveUplink_hunt s h
  intro hidle hlink send hsend
  simp only [hsend]
  refine ⟨fun hold hh => ?_, fun hh => ⟨fun e rest he => ?_, fun he => ⟨fun a rest ha => ?_, fun ha => ⟨fun r hr => ?_,
    fun hr => ⟨fun hs => ?_, fun hs => ⟨fun r rest ht => ?_, fun ht => ?_⟩⟩⟩⟩⟩⟩
  · exact serveUplink_of_source (x := .feedHold hold) hidle hlink (by simp [firstSource, hh])
  · exact serveUplink_of_source (x := .event e rest) hidle hlink (by simp [firstSource, hh, he])
  · exact serveUplink_of_source (x := .answer a rest) hidle hlink (by simp [firstSource, hh, he, ha])
  · rw [← readoutAfter_eq]
    exact serveUplink_of_source (x := .log r) hidle hlink (by simp [firstSource, hh, he, ha, hr])
  · exact serveUplink_of_source (x := .status) hidle hlink (by simp [firstSource, hh, he, ha, hr, hs])
  · exact serveUplink_of_source (x := .telemetry r rest) hidle hlink (by simp [firstSource, hh, he, ha, hr, hs, ht])
  · exact serveUplink_of_none (by simp [firstSource, hh, he, ha, hr, hs, ht])

end Sys2Proof.Machine

namespace Sys2Proof.Machine

open Sys2Proof.Safety

/-! SUPPORT. The pins, the bits of the characters, and what the two pairs carry (R117, R133, R135, R168, R170). -/

theorem drivesPair_iff (b : BusState) : drivesPair b = true ↔ ∃ tx, b = .request tx := by
  cases b <;> simp [drivesPair]

/-- The ones of a byte are those among its bits. -/
theorem length_filter_dataBits (b : Byte) : ((dataBits b).filter id).length = onesCount b := by
  simp [dataBits, onesCount, List.filter_map]

/-- A parity error is an odd number of ones among the bits before the stop bit. -/
theorem parityError_iff (c : LinkChar) :
    parityError c = true ↔ ((linkBits c).dropLast.filter id).length % 2 = 1 := by
  have hdrop : (linkBits c).dropLast = false :: (dataBits c.data ++ [c.parity]) := rfl
  rw [hdrop]
  cases hp : c.parity <;> simp [parityError, boolNat, length_filter_dataBits, hp]

theorem linkCharOf_linkBits (c : LinkChar) : linkCharOf (linkBits c) = some c := by
  simp [linkCharOf, linkBits, readBits_dataBits]

theorem busCharOf_busBits (c : BusChar) : busCharOf (busBits c) = some c := by
  simp [busCharOf, busBits, readBits_dataBits]

/-- The character the HC4 sends is a good one. -/
theorem sentChar_eq (b : Byte) : sentChar b = goodChar b := by
  have h : (onesCount b % 2 == 1) = decide (onesCount b % 2 = 1) := rfl
  simp [sentChar, goodChar, h]

/-- The request of a transaction is its address character alone with marker 1, then kind, length, payload and CRC. -/
theorem requestChars_eq (tx : Transaction) :
    requestChars tx
      = ⟨true, BitVec.ofNat 8 tx.address, true⟩
        :: (kindOf tx.serving :: BitVec.ofNat 8 (requestPayload tx.serving).length
            :: (requestPayload tx.serving
              ++ [crc8 (kindOf tx.serving :: BitVec.ofNat 8 (requestPayload tx.serving).length
                  :: requestPayload tx.serving)])).map (fun b => ⟨false, b, true⟩) := by
  have hkind : requestKind tx.serving = kindOf tx.serving := by
    cases tx.serving with
    | slot => rfl
    | access a => cases h : a.op <;> simp [requestKind, kindOf, h]
  unfold requestChars
  rw [hkind]
  rfl

/-- The payload of a request: none for a slot, the register of a read, and the value too of a write. -/
theorem requestPayload_access (a : Access) :
    requestPayload (.access a) = if a.op = .read then [a.register] else a.register :: leBytes 2 a.value.toNat := by
  cases h : a.op <;> simp [requestPayload, h]

theorem uplinkSends_frame {s : State} {f : TxFrame} (h : s.ulp.tx = some f) :
    uplinkSends s = some (txChars f, linkBaud f.rate) := by
  unfold uplinkSends
  rw [h]

theorem uplinkSends_sync {s : State} (ht : s.ulp.tx = none) (hu : s.ulp.uplink = .sync) :
    uplinkSends s = some (syncReply, linkBaud s.ulp.rate) := by
  unfold uplinkSends
  rw [ht, hu]

theorem busSends_request {s : State} {tx : Transaction} (h : s.sbm.bus = .request tx) :
    busSends s = some (requestChars tx, busBaud tx.rate) := by
  unfold busSends
  rw [h]

/-- Settles O44, pin by pin and pair by pair. -/
theorem pinsAndPairsCarryTheState : Obligations.PinsAndPairsCarryTheState := by
  unfold Obligations.PinsAndPairsCarryTheState
  refine ⟨fun s => ?_, fun c => ⟨rfl, linkCharOf_linkBits c, parityError_iff c⟩, fun c => ⟨rfl, busCharOf_busBits c⟩,
    fun b => ⟨charError_goodChar b, sentChar_eq b⟩, fun s f hf => ?_, fun s ht => ⟨fun hu => ?_, fun hu => ?_⟩,
    fun s tx payload hb hpayload => ?_, fun s hb => ?_, rfl, rfl, rfl, rfl, rfl, rfl, rfl⟩
  · refine ⟨drivesPair_iff _, rfl, rfl, decide_eq_true_iff, decide_eq_true_iff, rfl, fun id => ?_⟩
    have he : s.pins.extend.get id = decide ((s.pps.plates.get id).state = .extend) := Quad.get_mapPlates _ _ _
    have hr : s.pins.retract.get id = decide ((s.pps.plates.get id).state = .retract) := Quad.get_mapPlates _ _ _
    rw [he, hr, decide_eq_true_iff, decide_eq_true_iff]
    exact ⟨Iff.rfl, Iff.rfl, fun ⟨hextend, hretract⟩ => nomatch hextend.symm.trans hretract⟩
  · have hchars : txChars f = (txBytes f).map goodChar := List.map_congr_left fun b _ => sentChar_eq b
    rw [uplinkSends_frame hf, hchars]
    rfl
  · have hreply : syncReply = List.replicate 8 (goodChar 0x55#8) := by rw [syncReply, sentChar_eq]
    rw [uplinkSends_sync ht hu, hreply]
    rfl
  · unfold uplinkSends
    rw [ht]
    cases h : s.ulp.uplink with
    | sync => exact absurd h hu
    | silent => rfl
    | idle => rfl
    | sending => rfl
  · have hp : payload = requestPayload tx.serving := by
      rw [hpayload]
      cases tx.serving with
      | slot => rfl
      | access a => exact (requestPayload_access a).symm
    rw [busSends_request hb, hp, requestChars_eq]
  · unfold busSends
    cases h : s.sbm.bus with
    | request tx => exact absurd h (hb tx)
    | idle => rfl
    | response tx deadline => rfl
    | quiet deadline => rfl

end Sys2Proof.Machine

namespace Sys2Proof.Machine

open Sys2Proof.Safety

/-! SUPPORT. Where the fields of the uplink payloads lie, and the bytes of codes and flags (R185, R187, R189). -/

/-! ### The parts of a STATUS payload -/

/-- The first 29 bytes of STATUS are the link's and the tracker's. -/
theorem slice_status_head (s : State) {i n : Nat} (h : i + n ≤ 29) :
    slice (statusPayload s) i n = slice (statusHead s) i n := by
  unfold statusPayload
  rw [List.append_assoc]
  exact slice_append_left _ _ _ _ (by simpa using h)

/-- Bytes 29 to 63 of STATUS are the planner's and the positioner's. -/
theorem slice_status_steering (s : State) {i n : Nat} (h : i + n ≤ 35) :
    slice (statusPayload s) (29 + i) n = slice (statusSteering s) i n := by
  unfold statusPayload
  rw [slice_append_left _ _ _ _ (by simp; omega), slice_append_right _ _ _ _ (by simp)]
  simp

/-- The bytes of STATUS from 64 on are those of the drums, the pump, the account and the port. -/
theorem slice_status_tail (s : State) (i n : Nat) : slice (statusPayload s) (64 + i) n = slice (statusTail s) i n := by
  unfold statusPayload
  rw [slice_append_right _ _ _ _ (by simp)]
  simp

theorem slices_statusHead (s : State) :
    slice (statusHead s) 0 4 = leBytes 4 s.headTime.toNat ∧ slice (statusHead s) 4 1 = leBytes 1 (linkCode s.ulp.link)
      ∧ slice (statusHead s) 5 1 = leBytes 1 s.ulp.rate.val ∧ slice (statusHead s) 6 1 = leBytes 1 (vtrCode s.vtr.state)
      ∧ slice (statusHead s) 7 4 = optionBytes 4 s.vtr.depth ∧ slice (statusHead s) 11 4 = leBytes 4 s.vtr.dFace
      ∧ slice (statusHead s) 15 2 = leBytes 2 s.vtr.generation.toNat
      ∧ slice (statusHead s) 17 2 = leBytes 2 s.vtr.log.length
      ∧ slice (statusHead s) 19 4 = leInt 4 (faceOffset s.tst.active.mounting.params s.vtr false)
      ∧ slice (statusHead s) 23 4 = leInt 4 (faceOffset s.tst.active.mounting.params s.vtr true)
      ∧ slice (statusHead s) 27 2 = leInt 2 (openMean s.tst.active.mounting.params s.vtr .twist) := by
  simp [statusHead, slice_append_left, slice_append_right, slice_self]

theorem slices_statusSteering (s : State) :
    slice (statusSteering s) 0 2 = leInt 2 s.spl.deltaN
      ∧ slice (statusSteering s) 2 8 = quadBytes (leBytes 2) s.spl.targets
      ∧ slice (statusSteering s) 10 11 = errorBytes s.spl.lastErrors
      ∧ slice (statusSteering s) 21 1 = leBytes 1 (modeCode (effectiveMode s))
      ∧ slice (statusSteering s) 22 12 = quadBytes plateBytes s.pps.plates
      ∧ slice (statusSteering s) 34 1
        = leBytes 1
            (boolNat s.pps.plates.p1.stuckLatch + 2 * boolNat s.pps.plates.p2.stuckLatch
              + 4 * boolNat s.pps.plates.p3.stuckLatch + 8 * boolNat s.pps.plates.p4.stuckLatch) := by
  have htargets : (quadBytes (leBytes 2) s.spl.targets).length = 8 := by simp [quadBytes]
  have hplates : (quadBytes plateBytes s.pps.plates).length = 12 := by simp [quadBytes]
  simp [statusSteering, slice_append_left, slice_append_right, slice_self, htargets, hplates]

theorem slices_statusTail (s : State) :
    slice (statusTail s) 0 8 = governorBytes s.governorL ∧ slice (statusTail s) 8 8 = governorBytes s.governorR
      ∧ slice (statusTail s) 16 1 = leBytes 1 (pumpCode s.sru.pump)
      ∧ slice (statusTail s) 17 1 = leBytes 1 (pumpPhaseCode s.sru.pump) ∧ slice (statusTail s) 18 2 = leBytes 2 s.sru.duty
      ∧ slice (statusTail s) 20 1
        = leBytes 1
            (boolNat s.governorL.prot.latch + 2 * boolNat s.governorR.prot.latch + 4 * boolNat s.sru.prot.latch)
      ∧ slice (statusTail s) 21 4 = leBytes 4 s.sru.account ∧ slice (statusTail s) 25 1 = leBytes 1 s.sru.level
      ∧ slice (statusTail s) 26 2 = leBytes 2 (loadFactor s) ∧ slice (statusTail s) 28 1 = leBytes 1 (boolNat s.sru.held)
      ∧ slice (statusTail s) 29 1 = leBytes 1 (summaryByte s.ulp.summary) := by
  simp [statusTail, slice_append_left, slice_append_right, slice_self]

/-! ### Parts of parts -/

/-- A part of a part is the part it is. -/
theorem slice_slice (p : List Byte) {i n j m : Nat} (h : j + m ≤ n) : slice (slice p i n) j m = slice p (i + j) m := by
  unfold slice
  rw [List.drop_take, List.take_take, List.drop_drop, Nat.min_eq_left (by omega)]

/-- Two neighbouring parts. -/
theorem slice_add (p : List Byte) (i n m : Nat) : slice p i (n + m) = slice p i n ++ slice p (i + n) m := by
  unfold slice
  rw [List.take_add, List.drop_drop]

/-- The bytes of a plate: its state, then its position. -/
theorem slices_plateBytes (p : Plate) :
    slice (plateBytes p) 0 1 = leBytes 1 (plateCode p.state) ∧ slice (plateBytes p) 1 2 = optionBytes 2 p.position := by
  simp [plateBytes, slice_append_left, slice_append_right, slice_self]

/-- The three bytes of a plate among those of the four. -/
theorem slice_quad_plateBytes (q : Quad Plate) (id : PlateId) :
    slice (quadBytes plateBytes q) (3 * plateIndex id) 3 = plateBytes (q.get id) := by
  cases id <;> simp [quadBytes, plateIndex, Quad.get, slice_append_left, slice_append_right, slice_self]

/-- The bytes of a drum: state and substate, then speed, measured speed and duty. -/
theorem slices_governorBytes (g : Governor) :
    slice (governorBytes g) 0 2 = leBytes 1 (governorCode g.state) ++ leBytes 1 (governorPhaseCode g.state)
      ∧ slice (governorBytes g) 2 6 = leBytes 2 g.speed ++ leBytes 2 g.nMeas ++ leBytes 2 g.duty := by
  have hparts : governorBytes g
      = (leBytes 1 (governorCode g.state) ++ leBytes 1 (governorPhaseCode g.state))
        ++ (leBytes 2 g.speed ++ leBytes 2 g.nMeas ++ leBytes 2 g.duty) := by simp [governorBytes]
  rw [hparts]
  exact ⟨(slice_append_left _ _ _ _ (by simp)).trans (slice_self _ _ (by simp)),
    (slice_append_right _ _ _ _ (by simp)).trans (slice_self _ _ (by simp))⟩

/-! ### Codes and flags -/

/-- The substate of a drum stands with its state. -/
theorem governorCodes (x : GovernorState) :
    leBytes 1 (governorCode x) ++ leBytes 1 (governorPhaseCode x)
      = (match x with
        | .off => [0, 0]
        | .run => [1, 0]
        | .stopping => [2, 0]
        | .trip (.timing _) => [3, 1]
        | .trip .waiting => [3, 2]
        | .lockout => [4, 0]
        | .nofb => [5, 0]) := by
  cases x with
  | trip phase => cases phase <;> rfl
  | off | run | stopping | lockout | nofb => rfl

/-- The substate of the pump stands with its state. -/
theorem pumpCodes (x : PumpState) :
    leBytes 1 (pumpCode x) ++ leBytes 1 (pumpPhaseCode x)
      = (match x with
        | .off => [0, 0]
        | .prime => [1, 0]
        | .run => [2, 0]
        | .trip (.timing _) => [3, 1]
        | .trip .waiting => [3, 2]
        | .lockout => [4, 0]) := by
  cases x with
  | trip phase => cases phase <;> rfl
  | off | prime | run | lockout => rfl

/-- Three flags in a byte. -/
theorem leBytes_three_flags :
    ∀ a b c : Bool,
      leBytes 1 (boolNat a + 2 * boolNat b + 4 * boolNat c)
        = [(if a then 1 else 0) + (if b then 2 else 0) + (if c then 4 else 0)] := by decide

/-- Four flags in a byte. -/
theorem leBytes_four_flags :
    ∀ a b c d : Bool,
      leBytes 1 (boolNat a + 2 * boolNat b + 4 * boolNat c + 8 * boolNat d)
        = [(if a then 1 else 0) + (if b then 2 else 0) + (if c then 4 else 0) + (if d then 8 else 0)] := by decide

/-- Five flags in a byte. -/
theorem leBytes_five_flags :
    ∀ a b c d e : Bool,
      leBytes 1 (boolNat a + 2 * boolNat b + 4 * boolNat c + 8 * boolNat d + 16 * boolNat e)
        = [(if a then 1 else 0) + (if b then 2 else 0) + (if c then 4 else 0) + (if d then 8 else 0)
          + (if e then 16 else 0)] := by decide

/-- Six flags in a byte. -/
theorem leBytes_six_flags :
    ∀ a b c d e f : Bool,
      leBytes 1 (boolNat a + 2 * boolNat b + 4 * boolNat c + 8 * boolNat d + 16 * boolNat e + 32 * boolNat f)
        = [(if a then 1 else 0) + (if b then 2 else 0) + (if c then 4 else 0) + (if d then 8 else 0)
          + (if e then 16 else 0) + (if f then 32 else 0)] := by decide

end Sys2Proof.Machine

namespace Sys2Proof.Machine

open Sys2Proof.Safety

/-! SUPPORT. The payloads of STATUS, EVENT, LOG DATA and TELEMETRY, field by field (R185, R187, R189). -/

/-- The head of STATUS at its places in the frame. -/
theorem status_head {s : State} {i n : Nat} {field : List Byte} (h : slice (statusHead s) i n = field) (hi : i + n ≤ 29) :
    slice (statusPayload s) i n = field := (slice_status_head s hi).trans h

/-- The planner's and the positioner's part of STATUS at its places in the frame. -/
theorem status_steering {s : State} {i n : Nat} {field : List Byte} (h : slice (statusSteering s) i n = field)
    (hi : i + n ≤ 35) : slice (statusPayload s) (29 + i) n = field := (slice_status_steering s hi).trans h

/-- The tail of STATUS at its places in the frame. -/
theorem status_tail {s : State} {i n : Nat} {field : List Byte} (h : slice (statusTail s) i n = field) :
    slice (statusPayload s) (64 + i) n = field := (slice_status_tail s i n).trans h

/-- The bytes of a plate in STATUS. -/
theorem status_plate (s : State) (id : PlateId) :
    slice (statusPayload s) (51 + 3 * plateIndex id) 3 = plateBytes (s.pps.plates.get id) := by
  obtain ⟨-, -, -, -, hplates, -⟩ := slices_statusSteering s
  have hquad : slice (statusPayload s) 51 12 = quadBytes plateBytes s.pps.plates :=
    status_steering (i := 22) hplates (by decide)
  have hin : 3 * plateIndex id + 3 ≤ 12 := by cases id <;> decide
  rw [← slice_quad_plateBytes s.pps.plates id, ← hquad, slice_slice _ hin]

/-- The bytes of a drum in STATUS. -/
theorem status_governor (s : State) (d : Drum) :
    slice (statusPayload s) (match d with | .left => 64 | .right => 72) 8 = governorBytes (s.governor d) := by
  obtain ⟨hleft, hright, -⟩ := slices_statusTail s
  cases d with
  | left => exact status_tail (i := 0) hleft
  | right => exact status_tail (i := 8) hright

/-- The fields of an EVENT payload. -/
theorem slices_eventPayload (e : EventEntry) :
    slice (eventPayload e) 0 1 = leBytes 1 (eventKindCode e.kind)
      ∧ slice (eventPayload e) 1 1 = leBytes 1 (eventSourceCode e.source) ∧ slice (eventPayload e) 2 4 = leInt 4 e.value
      ∧ slice (eventPayload e) 6 4 = leBytes 4 e.first.toNat ∧ slice (eventPayload e) 10 4 = leBytes 4 e.last.toNat
      ∧ slice (eventPayload e) 14 1 = leBytes 1 e.count := by
  simp [eventPayload, slice_append_left, slice_append_right, slice_self]

/-- The fields of a station record in LOG DATA. -/
theorem slices_recordBytes (r : StationRecord) :
    slice (recordBytes r) 0 2 = leBytes 2 r.index ∧ slice (recordBytes r) 2 4 = leBytes 4 r.depth
      ∧ slice (recordBytes r) 6 4 = leInt 4 r.mX ∧ slice (recordBytes r) 10 4 = leInt 4 r.mY
      ∧ slice (recordBytes r) 14 2 = leInt 2 r.mT ∧ slice (recordBytes r) 16 6 = leInt 6 r.sX
      ∧ slice (recordBytes r) 22 6 = leInt 6 r.sY ∧ slice (recordBytes r) 28 4 = leInt 4 (offsetOf r.sX)
      ∧ slice (recordBytes r) 32 4 = leInt 4 (offsetOf r.sY) ∧ slice (recordBytes r) 36 2 = leBytes 2 r.sampleCount
      ∧ slice (recordBytes r) 38 1 = leBytes 1 (stationFlagsByte r.flags) := by
  simp [recordBytes, slice_append_left, slice_append_right, slice_self]

/-- The offset of a record is its integrated sum by the rounded quotient. -/
theorem offsetOf_unique {sum offset : Int} (h : RoundedQuotient sum 200000 offset) : offsetOf sum = offset :=
  RoundedQuotient.unique (by decide) (roundDiv_rounded _ _ (by decide)) h

/-- Settles O45: STATUS by its three parts, then EVENT, the station record and TELEMETRY. -/
theorem uplinkPayloadsAreLaidOut : Obligations.UplinkPayloadsAreLaidOut := by
  unfold Obligations.UplinkPayloadsAreLaidOut
  refine ⟨?status, ?event, ?station, ?telemetry⟩
  case status =>
    rintro s p rfl
    obtain ⟨htime, hlink, hrate, hvtr, hdepth, hface, hgeneration, hlog, hx, hy, htwist⟩ := slices_statusHead s
    obtain ⟨hdelta, htargets, herrors, hmode, -, hstuck⟩ := slices_statusSteering s
    obtain ⟨-, -, hpump, hpumpPhase, hduty, hlatches, haccount, hlevel, hfactor, hheld, hsummary⟩ := slices_statusTail s
    refine ⟨length_statusPayload s, status_head htime (by decide), ?link, status_head hrate (by decide), ?vtr, ?depth,
      status_head hface (by decide), status_head hgeneration (by decide), status_head hlog (by decide),
      status_head hx (by decide), status_head hy (by decide), status_head htwist (by decide),
      status_steering (i := 0) hdelta (by decide), status_steering (i := 2) htargets (by decide), ?noErrors, ?errors,
      ?mode, ?plates, ?stuck, ?drums, ?pump, status_tail (i := 18) hduty, ?latches, status_tail (i := 21) haccount,
      status_tail (i := 25) hlevel, status_tail (i := 26) hfactor, ?held, ?summary⟩
    case link =>
      rw [status_head hlink (by decide)]
      cases s.ulp.link <;> rfl
    case vtr =>
      rw [status_head hvtr (by decide)]
      cases s.vtr.state <;> rfl
    case depth =>
      rw [status_head hdepth (by decide)]
      cases s.vtr.depth <;> rfl
    case noErrors =>
      intro h
      rw [h] at herrors
      exact status_steering (i := 10) herrors (by decide)
    case errors =>
      intro e h
      rw [h] at herrors
      refine (status_steering (i := 10) herrors (by decide)).trans ?_
      simp [errorBytes, leBytes]
    case mode =>
      refine (status_steering (i := 21) hmode (by decide)).trans ?_
      cases effectiveMode s <;> rfl
    case plates =>
      intro id i hi
      obtain ⟨hstate, hposition⟩ := slices_plateBytes (s.pps.plates.get id)
      have hplace : i = 51 + 3 * plateIndex id := by rw [hi]; cases id <;> rfl
      rw [← status_plate s id, slice_slice _ (by decide), ← hplace] at hstate hposition
      refine ⟨hstate.trans ?_, hposition.trans ?_⟩
      · cases (s.pps.plates.get id).state <;> rfl
      · cases (s.pps.plates.get id).position <;> rfl
    case stuck => exact (status_steering (i := 34) hstuck (by decide)).trans (leBytes_four_flags _ _ _ _)
    case drums =>
      rintro d i rfl
      obtain ⟨hstate, hspeeds⟩ := slices_governorBytes (s.governor d)
      rw [← status_governor s d, slice_slice _ (by decide)] at hstate hspeeds
      exact ⟨hstate.trans (governorCodes _), hspeeds⟩
    case pump =>
      refine (slice_add _ 80 1 1).trans ?_
      have hstate : slice (statusPayload s) 80 1 = _ := status_tail (i := 16) hpump
      have hphase : slice (statusPayload s) (80 + 1) 1 = _ := status_tail (i := 17) hpumpPhase
      rw [hstate, hphase]
      exact pumpCodes _
    case latches => exact (status_tail (i := 20) hlatches).trans (leBytes_three_flags _ _ _)
    case held =>
      refine (status_tail (i := 28) hheld).trans ?_
      cases s.sru.held <;> rfl
    case summary => exact (status_tail (i := 29) hsummary).trans (leBytes_four_flags _ _ _ _)
  case event =>
    rintro e p rfl
    obtain ⟨hkind, hsource, hrest⟩ := slices_eventPayload e
    refine ⟨by simp [eventPayload], hkind.trans ?_, hsource.trans ?_, hrest⟩
    · cases e.kind <;> rfl
    · cases e.source with
      | unit u =>
        cases u with
        | drum d => cases d <;> rfl
        | pump => rfl
      | plate id => cases id <;> rfl
      | link | slot | sru | vtr | axisX | axisY => rfl
  case station =>
    rintro r p rfl
    obtain ⟨hindex, hdepth, hmX, hmY, hmT, hsX, hsY, hoffsetX, hoffsetY, hcount, hflags⟩ := slices_recordBytes r
    refine ⟨by simp [recordBytes], hindex, hdepth, hmX, hmY, hmT, hsX, hsY, fun offset h => ?_, fun offset h => ?_,
      hcount, hflags.trans (leBytes_six_flags _ _ _ _ _ _)⟩
    · rw [hoffsetX, offsetOf_unique h]
    · rw [hoffsetY, offsetOf_unique h]
  case telemetry =>
    intro r
    have htags : leBytes 1 (tagsByte r.tags) = _ := leBytes_five_flags _ _ _ _ _
    unfold telemetryPayload
    rw [htags]
    cases r.payload <;> cases r.role <;> simp [leBytes, roleCode]

end Sys2Proof.Machine

namespace Sys2Proof.Machine

open Sys2Proof.Safety

/-! SUPPORT. The votes, the face and the errors of the planner, and the plan line between its rows (R15, R22, R23,
R34 to R37). -/

/-! ### Votes -/

theorem agreementLimit_eq (m : MountingParams) (axis : Axis) :
    agreementLimit m axis = if axis = .twist then m.agreementTwist else m.agreementXY := by cases axis <;> rfl

section

variable {m : MountingParams} {v : Vtr} {axis : Axis} {a b : Int}

/-- The vote of two means. -/
theorem vote_both (ha : mean v.accA axis = some a) (hb : mean v.accB axis = some b) :
    vote m v axis
      = if (a - b).natAbs ≤ agreementLimit m axis then roundDiv (a + b) 2
        else if m.primary = .a then a else b := by
  unfold vote
  rw [ha, hb]
  cases m.primary <;> rfl

theorem vote_onlyA (ha : mean v.accA axis = some a) (hb : mean v.accB axis = none) : vote m v axis = a := by
  unfold vote
  rw [ha, hb]

theorem vote_onlyB (ha : mean v.accA axis = none) (hb : mean v.accB axis = some b) : vote m v axis = b := by
  unfold vote
  rw [ha, hb]

/-- With no mean the vote is the newest record's value. -/
theorem vote_none (ha : mean v.accA axis = none) (hb : mean v.accB axis = none) :
    vote m v axis = newestMean v.log axis := by
  unfold vote
  rw [ha, hb]

/-- The sensors of an axis disagree exactly when both have a mean and these lie further apart than the limit. -/
theorem disagrees_iff :
    disagrees m v axis = true
      ↔ ∃ a b : Int, mean v.accA axis = some a ∧ mean v.accB axis = some b ∧ agreementLimit m axis < (a - b).natAbs := by
  unfold disagrees
  cases mean v.accA axis <;> cases mean v.accB axis <;> simp

end

/-! ### The face and the errors -/

theorem openMean_nil {m : MountingParams} {v : Vtr} (h : v.log = []) (axis : Axis) : openMean m v axis = 0 := by
  unfold openMean
  rw [h]

theorem openMean_of_last {m : MountingParams} {v : Vtr} {r : StationRecord} (h : v.log.getLast? = some r) (axis : Axis) :
    openMean m v axis = vote m v axis := by
  unfold openMean
  cases hl : v.log with
  | nil => simp [hl] at h
  | cons x rest => rfl

theorem faceOffset_nil {m : MountingParams} {v : Vtr} (h : v.log = []) (onY : Bool) : faceOffset m v onY = 0 := by
  simp [faceOffset, h]

/-- The live offsets at the face, from the newest record. -/
theorem faceOffset_rounded {m : MountingParams} {v : Vtr} {r : StationRecord} (h : v.log.getLast? = some r) :
    RoundedQuotient
        (r.sX + ((if r.index = 0 then vote m v .x else r.mX) + vote m v .x) * ((v.dFace : Int) - r.depth)) 200000
        (faceOffset m v false)
      ∧ RoundedQuotient
          (r.sY + ((if r.index = 0 then vote m v .y else r.mY) + vote m v .y) * ((v.dFace : Int) - r.depth)) 200000
          (faceOffset m v true) := by
  simp only [faceOffset, h, ← segmentSum_eq]
  exact ⟨roundDiv_rounded _ _ (by decide), roundDiv_rounded _ _ (by decide)⟩

/-- Settles O47, by the means of the two sensors, then by the newest record. -/
theorem votesGiveFaceAndErrors : Obligations.VotesGiveFaceAndErrors := by
  unfold Obligations.VotesGiveFaceAndErrors
  refine ⟨fun m v axis limit hlimit => ?_, fun m v => ?_, ?_⟩
  · obtain rfl : limit = agreementLimit m axis := hlimit.trans (agreementLimit_eq m axis).symm
    refine ⟨fun a b ha hb => ⟨fun hle => ?_, fun hlt => ?_⟩, disagrees_iff, fun a ha hb => vote_onlyA ha hb,
      fun b ha hb => vote_onlyB ha hb, fun ha hb => ⟨fun hlog => ?_, fun r hr => ?_⟩⟩
    · rw [vote_both ha hb, if_pos hle]
      exact roundDiv_rounded _ _ (by decide)
    · rw [vote_both ha hb, if_neg (Nat.not_le.mpr hlt)]
    · rw [vote_none ha hb, hlog]
      rfl
    · rw [vote_none ha hb]
      simp only [newestMean, hr]
      cases axis <;> rfl
  · exact ⟨fun h => ⟨faceOffset_nil h _, faceOffset_nil h _, openMean_nil h⟩,
      fun r hr => ⟨openMean_of_last hr, faceOffset_rounded hr⟩⟩
  · rintro t v m plan look rfl rfl rfl
    have hx : (steeringErrors t v).ex + (planTarget t.plan v.dFace).x - faceOffset t.mounting.params v false
        = roundDiv (openMean t.mounting.params v .x * t.steering.params.lookahead) 100000 := by
      simp only [steeringErrors, predicted]
      omega
    have hy : (steeringErrors t v).ey + (planTarget t.plan v.dFace).y - faceOffset t.mounting.params v true
        = roundDiv (openMean t.mounting.params v .y * t.steering.params.lookahead) 100000 := by
      simp only [steeringErrors, predicted]
      omega
    rw [hx, hy]
    exact ⟨roundDiv_rounded _ _ (by decide), roundDiv_rounded _ _ (by decide), rfl⟩

/-! ### Rows in order -/

/-- Rows of which none is out of order to the one before it are in order pairwise. -/
theorem pairwise_of_firstUnordered {α : Type} {R : α → α → Prop} {ordered : α → α → Bool}
    (htrans : ∀ x y z, R x y → R y z → R x z) (ho : ∀ x y, ordered x y = true → R x y) {row : Nat} {a : α} {rest : List α}
    (h : firstUnordered ordered row a rest = none) : (a :: rest).Pairwise R := by
  induction rest generalizing row a with
  | nil => exact List.pairwise_singleton R a
  | cons b rest ih =>
    unfold firstUnordered at h
    split at h
    · next hab =>
      have hrest := ih h
      refine List.pairwise_cons.mpr ⟨fun x hx => ?_, hrest⟩
      rcases List.mem_cons.mp hx with rfl | hx
      · exact ho _ _ hab
      · exact htrans _ _ _ (ho _ _ hab) (List.rel_of_pairwise_cons hrest hx)
    · cases h

/-- A function that goes along rising rows past each whose successor is reached, started at the first row, comes to
every row that is reached. -/
theorem walk_of_reached {α β : Type} {key : α → Nat} {f : α → List α → β} {d : Nat}
    (hskip : ∀ r next rest, key r < key next → key next ≤ d → f r (next :: rest) = f next rest) {r a : α} {rest : List α}
    {i : Nat} (hrise : (r :: rest).Pairwise (fun x y => key x < key y)) (ha : (r :: rest)[i]? = some a)
    (hd : key a ≤ d) : f r rest = f a (rest.drop i) := by
  induction i generalizing r rest with
  | zero =>
    simp only [List.getElem?_cons_zero, Option.some.injEq] at ha
    rw [ha, List.drop_zero]
  | succ i ih =>
    rw [List.getElem?_cons_succ] at ha
    cases rest with
    | nil => simp at ha
    | cons next rest =>
      obtain ⟨hfirst, hrest⟩ := List.pairwise_cons.mp hrise
      have hmem : a ∈ next :: rest := List.mem_of_getElem? ha
      have hle : key next ≤ key a := by
        rcases List.mem_cons.mp hmem with rfl | hmem
        · exact Nat.le_refl _
        · exact Nat.le_of_lt (List.rel_of_pairwise_cons hrest hmem)
      rw [hskip r next rest (hfirst next List.mem_cons_self) (hle.trans hd), ih hrest ha]
      rfl

/-! ### The plan line -/

theorem planFrom_above {d : Nat} {r : PlanRow} (h : d ≤ r.depth) (rest : List PlanRow) :
    planFrom d r rest = rowTarget r := by
  cases rest with
  | nil => rfl
  | cons next rest => exact if_pos h

theorem planFrom_skip {d : Nat} (r next : PlanRow) (rest : List PlanRow) (hr : r.depth < next.depth)
    (hd : next.depth ≤ d) : planFrom d r (next :: rest) = planFrom d next rest := by
  rw [planFrom, if_neg (by omega), if_neg (by omega)]

theorem roundDiv_zero (d : Nat) : roundDiv 0 d = 0 := by
  have hquot : (2 * (0 : Int).natAbs + d) / (2 * d) = 0 := by
    rcases Nat.eq_zero_or_pos d with rfl | h
    · rfl
    · exact Nat.div_eq_of_lt (by simp only [Int.natAbs_zero]; omega)
  unfold roundDiv
  simp only [hquot]
  rfl

/-- At a row's own depth interpolation gives the row's value. -/
theorem interpolate_self (v0 v1 : Int) (d0 d1 : Nat) : interpolate v0 v1 d0 d1 d0 = v0 := by
  simp [interpolate, roundDiv_zero]

theorem planFrom_between {d : Nat} {a b : PlanRow} (rest : List PlanRow) (ha : a.depth ≤ d) (hb : d < b.depth) :
    planFrom d a (b :: rest)
      = ⟨interpolate a.x b.x a.depth b.depth d, interpolate a.y b.y a.depth b.depth d,
          interpolate a.twist b.twist a.depth b.depth d⟩ := by
  by_cases h : d ≤ a.depth
  · obtain rfl : d = a.depth := Nat.le_antisymm h ha
    rw [planFrom_above h]
    simp only [interpolate_self]
    rfl
  · rw [planFrom, if_neg h, if_pos hb]

/-- The counted rows of a plan that passes its check are of rising depth. -/
theorem planCheck_rising {r : PlanRow} {rest : List PlanRow} (h : planCheck (r :: rest) = none) :
    (r :: rest).Pairwise (fun x y => x.depth < y.depth) :=
  pairwise_of_firstUnordered (R := fun x y : PlanRow => x.depth < y.depth) (fun _ _ _ => Nat.lt_trans)
    (fun _ _ => of_decide_eq_true) h

/-- The plan target at or below a counted row goes on from that row. -/
theorem planFrom_of_reached {d i : Nat} {r a : PlanRow} {rest : List PlanRow}
    (hrise : (r :: rest).Pairwise (fun x y => x.depth < y.depth)) (ha : (r :: rest)[i]? = some a) (hd : a.depth ≤ d) :
    planFrom d r rest = planFrom d a (rest.drop i) := walk_of_reached (planFrom_skip (d := d)) hrise ha hd

/-- Settles O48: the target goes on from the last row that is reached. -/
theorem planTargetIsInterpolated : Obligations.PlanTargetIsInterpolated := by
  unfold Obligations.PlanTargetIsInterpolated
  intro t d rows hrows hcheck
  unfold planTarget
  rw [← hrows]
  cases rows with
  | nil => exact ⟨fun _ => rfl, by simp, by simp, by simp⟩
  | cons r rest =>
    have hrise := planCheck_rising hcheck
    refine ⟨by simp, ?_, ?_, ?_⟩
    · intro x hx hd
      simp only [List.head?_cons, Option.some.injEq] at hx
      subst hx
      exact planFrom_above hd rest
    · intro x hx hd
      rw [List.getLast?_eq_getElem?] at hx
      refine (planFrom_of_reached hrise hx hd).trans ?_
      rw [List.drop_eq_nil_of_le (by simp)]
      rfl
    · intro i a b ha hb had hdb
      have hdrop : rest.drop i = b :: rest.drop (i + 1) :=
        List.drop_eq_getElem?_toList_append.trans (by rw [← List.getElem?_cons_succ, hb]; rfl)
      refine ⟨_, _, _, (planFrom_of_reached hrise ha had).trans ((congrArg (planFrom d a) hdrop).trans
        (planFrom_between _ had hdb)), ?_, ?_, ?_⟩
      all_goals exact roundDiv_rounded _ _ (by omega)

end Sys2Proof.Machine

namespace Sys2Proof.Machine

open Sys2Proof.Safety

/-! SUPPORT. The correction bands and the feed-forward curve (R38 to R42, R67). -/

/-! ### The bands -/

/-- One band looked at after the best so far. -/
def betterBand (magnitude : Nat) (best r : Band) : Band :=
  if r.edge ≤ magnitude ∧ best.edge ≤ r.edge then r else best

/-- The band output is that of the best band. -/
theorem bandOutput_eq (bands : List Band) (m : Nat) :
    bandOutput bands m = (bands.foldl (betterBand m) ⟨0, 0⟩).output := rfl

/-- Bands above the magnitude leave the best as it is. -/
theorem foldl_betterBand_above {m : Nat} {bands : List Band} (h : ∀ b ∈ bands, m < b.edge) (best : Band) :
    bands.foldl (betterBand m) best = best := by
  induction bands with
  | nil => rfl
  | cons b rest ih =>
    have hb : m < b.edge := h b List.mem_cons_self
    have hbest : betterBand m best b = best := if_neg fun hle => by omega
    rw [List.foldl_cons, hbest, ih fun x hx => h x (List.mem_cons_of_mem b hx)]

/-- Among rising bands the last that the magnitude reaches is the best. -/
theorem foldl_betterBand_reached {m i : Nat} {bands : List Band} {b best : Band}
    (hrise : bands.Pairwise (fun x y => x.edge < y.edge)) (hbest : ∀ x ∈ bands, best.edge ≤ x.edge)
    (hb : bands[i]? = some b) (hm : b.edge ≤ m) (hnext : ∀ c, bands[i + 1]? = some c → m < c.edge) :
    bands.foldl (betterBand m) best = b := by
  induction bands generalizing i best with
  | nil => simp at hb
  | cons x rest ih =>
    obtain ⟨hfirst, hrest⟩ := List.pairwise_cons.mp hrise
    have hx : x.edge ≤ m → betterBand m best x = x := fun h => if_pos ⟨h, hbest x List.mem_cons_self⟩
    rw [List.foldl_cons]
    cases i with
    | zero =>
      simp only [List.getElem?_cons_zero, Option.some.injEq] at hb
      subst hb
      rw [hx hm]
      refine foldl_betterBand_above (fun y hy => ?_) x
      cases rest with
      | nil => simp at hy
      | cons c rest =>
        have hc : m < c.edge := hnext c rfl
        rcases List.mem_cons.mp hy with rfl | hy
        · exact hc
        · exact hc.trans (List.rel_of_pairwise_cons hrest hy)
    | succ i =>
      rw [List.getElem?_cons_succ] at hb hnext
      have hxb : x.edge < b.edge := hfirst b (List.mem_of_getElem? hb)
      rw [hx (by omega)]
      exact ih hrest (fun y hy => Nat.le_of_lt (hfirst y hy)) hb hnext

/-- The counted rows of a section that passes its check are of rising edges. -/
theorem bandCheck_rising {row : Nat} {bands : List Band} (h : bandCheck row bands = none) :
    bands.Pairwise (fun x y => x.edge < y.edge) := by
  cases bands with
  | nil => exact List.Pairwise.nil
  | cons b rest =>
    exact pairwise_of_firstUnordered (R := fun x y : Band => x.edge < y.edge) (fun _ _ _ => Nat.lt_trans)
      (fun _ _ ho => (of_decide_eq_true ho).1) h

/-- The face pair extension, plate by plate. -/
theorem facePart_eq (t : SteeringTable) (ey : Int) :
    facePart t ey
      = ⟨if 0 < ey then bandOutput (t.bandsY.take t.params.nY) ey.natAbs else 0,
          if 0 < ey then bandOutput (t.bandsY.take t.params.nY) ey.natAbs else 0,
          if ey < 0 then bandOutput (t.bandsY.take t.params.nY) ey.natAbs else 0,
          if ey < 0 then bandOutput (t.bandsY.take t.params.nY) ey.natAbs else 0⟩ := by
  unfold facePart
  rcases lt_trichotomy ey 0 with h | rfl | h
  · simp [h, h.not_gt]
  · simp [Quad.all]
  · simp [h, h.not_gt]

/-- The diagonal pair extension, plate by plate. -/
theorem diagonalPart_eq (t : SteeringTable) (w : Int) :
    diagonalPart t w
      = ⟨if w < 0 then bandOutput (t.bandsT.take t.params.nT) w.natAbs else 0,
          if 0 < w then bandOutput (t.bandsT.take t.params.nT) w.natAbs else 0,
          if 0 < w then bandOutput (t.bandsT.take t.params.nT) w.natAbs else 0,
          if w < 0 then bandOutput (t.bandsT.take t.params.nT) w.natAbs else 0⟩ := by
  unfold diagonalPart
  rcases lt_trichotomy w 0 with h | rfl | h
  · simp [h, h.not_gt]
  · simp [Quad.all]
  · simp [h, h.not_gt]

/-- Settles O49, from the two band lemmas and the parts plate by plate. -/
theorem bandsGiveCorrections : Obligations.BandsGiveCorrections := by
  unfold Obligations.BandsGiveCorrections
  refine ⟨fun bands m hcheck => ⟨fun habove => ?_, fun i b hb hm hnext => ?_⟩, ?_⟩
  · rw [bandOutput_eq, foldl_betterBand_above habove]
  · rw [bandOutput_eq, foldl_betterBand_reached (bandCheck_rising hcheck) (fun x _ => Nat.zero_le x.edge) hb hm hnext]
  · rintro t ex ey w eX eY eT rfl rfl rfl
    refine ⟨fun h => if_pos h, fun h => ?_, fun h => ?_, ?_⟩
    · exact (if_neg (not_lt.mpr h.le)).trans (if_pos h)
    · subst h
      rfl
    · simp only [plateTargets, facePart_eq, diagonalPart_eq]
      rfl

/-! ### The feed-forward curve -/

theorem curveFrom_at {c : Nat} {p : CurvePoint} (h : c ≤ p.speed) (rest : List CurvePoint) :
    curveFrom c p rest = p.duty := by
  cases rest with
  | nil => rfl
  | cons next rest => exact if_pos h

theorem curveFrom_skip {c : Nat} (p next : CurvePoint) (rest : List CurvePoint) (hp : p.speed < next.speed)
    (hc : next.speed ≤ c) : curveFrom c p (next :: rest) = curveFrom c next rest := by
  rw [curveFrom, if_neg (by omega), if_neg (by omega)]

theorem curveFrom_between {c : Nat} {a b : CurvePoint} (rest : List CurvePoint) (ha : a.speed ≤ c) (hb : c < b.speed) :
    curveFrom c a (b :: rest)
      = a.duty + roundDiv (((b.duty : Int) - a.duty) * ((c : Int) - a.speed)) (b.speed - a.speed) := by
  by_cases h : c ≤ a.speed
  · obtain rfl : c = a.speed := Nat.le_antisymm h ha
    rw [curveFrom_at h, Int.sub_self, Int.mul_zero, roundDiv_zero, Int.add_zero]
  · rw [curveFrom, if_neg h, if_pos hb]

/-- The points of a curve that passes its check begin at speed 0 and are of rising speed, and no duty falls. -/
theorem curveCheck_rising {row : Nat} {p : CurvePoint} {rest : List CurvePoint} (h : curveCheck row (p :: rest) = none) :
    p.speed = 0 ∧ (p :: rest).Pairwise (fun x y => x.speed < y.speed ∧ x.duty ≤ y.duty) := by
  simp only [curveCheck] at h
  split at h
  · next hspeed =>
    exact ⟨hspeed, pairwise_of_firstUnordered (R := fun x y : CurvePoint => x.speed < y.speed ∧ x.duty ≤ y.duty)
      (fun _ _ _ hxy hyz => ⟨hxy.1.trans hyz.1, hxy.2.trans hyz.2⟩) (fun _ _ => of_decide_eq_true) h⟩
  · cases h

/-- A rounded share of a rise lies between nothing and the rise. -/
theorem roundDiv_share {rise part whole : Nat} (hp : part ≤ whole) (hw : 0 < whole) :
    0 ≤ roundDiv ((rise : Int) * part) whole ∧ roundDiv ((rise : Int) * part) whole ≤ rise := by
  have hnonneg : (0 : Int) ≤ (rise : Int) * part := by positivity
  obtain ⟨hlow, hhigh⟩ := (roundDiv_rounded ((rise : Int) * part) whole hw).1 hnonneg
  have hle : (rise : Int) * part ≤ rise * whole := by exact_mod_cast Nat.mul_le_mul_left rise hp
  have hpos : (0 : Int) < whole := by exact_mod_cast hw
  generalize roundDiv ((rise : Int) * part) whole = q at *
  constructor
  · by_contra hneg
    nlinarith
  · by_contra hbig
    nlinarith

/-- The duty from a point on lies between that point's duty and a bound on all duties. -/
theorem curveFrom_bounds {c bound : Nat} {p : CurvePoint} {rest : List CurvePoint}
    (hrise : (p :: rest).Pairwise (fun x y => x.speed < y.speed ∧ x.duty ≤ y.duty))
    (hbound : ∀ x ∈ p :: rest, x.duty ≤ bound) :
    (p.duty : Int) ≤ curveFrom c p rest ∧ curveFrom c p rest ≤ bound := by
  have hp : (p.duty : Int) ≤ bound := by exact_mod_cast hbound p List.mem_cons_self
  induction rest generalizing p with
  | nil => exact ⟨le_refl _, hp⟩
  | cons next rest ih =>
    obtain ⟨hfirst, hrest⟩ := List.pairwise_cons.mp hrise
    obtain ⟨hspeed, hduty⟩ := hfirst next List.mem_cons_self
    have hnext : (next.duty : Int) ≤ bound := by
      exact_mod_cast hbound next (List.mem_cons_of_mem p List.mem_cons_self)
    by_cases hat : c ≤ p.speed
    · rw [curveFrom_at hat]
      exact ⟨le_refl _, hp⟩
    by_cases hbetween : c < next.speed
    · obtain ⟨hlow, hhigh⟩ :=
        roundDiv_share (rise := next.duty - p.duty) (part := c - p.speed) (whole := next.speed - p.speed) (by omega)
          (by omega)
      rw [Nat.cast_sub hduty, Nat.cast_sub (show p.speed ≤ c by omega)] at hlow hhigh
      rw [curveFrom_between rest (by omega) hbetween]
      constructor <;> linarith
    · rw [curveFrom_skip p next rest hspeed (by omega)]
      obtain ⟨hlow, hhigh⟩ := ih hrest (fun x hx => hbound x (List.mem_cons_of_mem p hx)) hnext
      exact ⟨by omega, hhigh⟩

/-- The feed-forward duty at or beyond a counted point goes on from that point. -/
theorem curveFrom_of_reached {c i : Nat} {p a : CurvePoint} {rest : List CurvePoint}
    (hrise : (p :: rest).Pairwise (fun x y => x.speed < y.speed ∧ x.duty ≤ y.duty)) (ha : (p :: rest)[i]? = some a)
    (hc : a.speed ≤ c) : curveFrom c p rest = curveFrom c a (rest.drop i) :=
  walk_of_reached (curveFrom_skip (c := c)) (hrise.imp And.left) ha hc

/-- Settles O50: the duty goes on from the last point that is reached. -/
theorem feedForwardIsInterpolated : Obligations.FeedForwardIsInterpolated := by
  unfold Obligations.FeedForwardIsInterpolated
  intro t d c points hpoints hcheck
  have hcounted : countedCurve t d = points := by
    rw [hpoints]
    cases d <;> rfl
  unfold feedForward
  rw [hcounted]
  cases points with
  | nil => exact ⟨by simp, by simp, by simp, fun _ => ⟨le_refl 0, (by decide : (0 : Int) ≤ 1000)⟩⟩
  | cons p rest =>
    obtain ⟨-, hrise⟩ := curveCheck_rising hcheck
    refine ⟨?_, ?_, ?_, ?_⟩
    · rintro a ha rfl
      obtain ⟨i, hi⟩ := List.mem_iff_getElem?.mp ha
      exact (curveFrom_of_reached hrise hi (le_refl _)).trans (curveFrom_at (le_refl _) _)
    · intro a ha hc
      rw [List.getLast?_eq_getElem?] at ha
      refine (curveFrom_of_reached hrise ha hc).trans ?_
      rw [List.drop_eq_nil_of_le (by simp)]
      rfl
    · intro i a b ha hb hac hcb
      have hdrop : rest.drop i = b :: rest.drop (i + 1) :=
        List.drop_eq_getElem?_toList_append.trans (by rw [← List.getElem?_cons_succ, hb]; rfl)
      exact ⟨_, (curveFrom_of_reached hrise ha hac).trans ((congrArg (curveFrom c a) hdrop).trans
        (curveFrom_between _ hac hcb)), roundDiv_rounded _ _ (by omega)⟩
    · intro hduties
      obtain ⟨hlow, hhigh⟩ := curveFrom_bounds (c := c) hrise hduties
      exact ⟨le_trans (Int.natCast_nonneg _) hlow, hhigh⟩

end Sys2Proof.Machine

namespace Sys2Proof.Machine

open Sys2Proof.Safety

/-! SUPPORT. The composed targets of the drums and the figures of the slurry return (R59 to R62, R105, R109, R110). -/

/-! ### The composed targets -/

theorem composedTarget_zero {nSet nMax : Nat} (h : nSet = 0 ∨ nMax = 0) (deltaN : Int) (f : Nat) (d : Drum) :
    composedTarget nSet nMax deltaN f d = 0 := by
  refine if_pos ?_
  omega

theorem composedTarget_of_base {nSet nMax : Nat} (h : min nSet nMax ≠ 0) (deltaN : Int) (f : Nat) (d : Drum) :
    composedTarget nSet nMax deltaN f d = splitTarget (min nSet nMax) nMax deltaN d * f / 1000 := if_neg h

/-- Under a full load factor a composed target is the split one. -/
theorem composedTarget_full {nSet nMax : Nat} (h : min nSet nMax ≠ 0) (deltaN : Int) (d : Drum) :
    composedTarget nSet nMax deltaN 1000 d = splitTarget (min nSet nMax) nMax deltaN d := by
  rw [composedTarget_of_base h, Nat.mul_div_cancel _ (by decide)]

/-- The load factor scales the composed target. -/
theorem composedTarget_scaled (nSet nMax f : Nat) (deltaN : Int) (d : Drum) :
    composedTarget nSet nMax deltaN f d = composedTarget nSet nMax deltaN 1000 d * f / 1000 := by
  by_cases h : min nSet nMax = 0
  · have hzero : nSet = 0 ∨ nMax = 0 := by omega
    rw [composedTarget_zero hzero, composedTarget_zero hzero, Nat.zero_mul, Nat.zero_div]
  · rw [composedTarget_full h, composedTarget_of_base h]

/-- The half of the differential that drum R gives up, in the integers' own division. -/
theorem tdiv_two (deltaN : Int) : deltaN.tdiv 2 = if 0 ≤ deltaN then deltaN / 2 else -(-deltaN / 2) := by
  split
  · next h => exact Int.tdiv_eq_ediv_of_nonneg h
  · next h =>
    have hneg : deltaN.tdiv 2 = -((-deltaN).tdiv 2) := by rw [Int.neg_tdiv, Int.neg_neg]
    rw [hneg, Int.tdiv_eq_ediv_of_nonneg (by omega)]

/-- The split targets keep the differential when it fits under N_max and its half under the base. -/
theorem splitTarget_difference {base nMax : Nat} {deltaN : Int} (hfits : deltaN.natAbs ≤ nMax)
    (hhalf : (deltaN.natAbs + 1) / 2 ≤ base) :
    (splitTarget base nMax deltaN .left : Int) - splitTarget base nMax deltaN .right = deltaN := by
  simp only [splitTarget, tdiv_two]
  split <;> omega

/-- Settles O51, from the split targets and their scaling. -/
theorem composedTargetsKeepDifferential : Obligations.ComposedTargetsKeepDifferential := by
  unfold Obligations.ComposedTargetsKeepDifferential
  intro nSet nMax f deltaN
  refine ⟨fun h d => composedTarget_zero h deltaN f d, ?_, fun hf d => composedTarget_le hf nSet nMax deltaN d,
    composedTarget_scaled nSet nMax f deltaN, fun hset hfits hhalf hmax => ?_⟩
  · rintro base left right excess hbase hne rfl rfl rfl
    have hcast : base = ((min nSet nMax : Nat) : Int) := by omega
    have hnat : min nSet nMax ≠ 0 := by omega
    rw [composedTarget_of_base hnat, composedTarget_of_base hnat, hcast]
    simp only [splitTarget, Int.natCast_ediv, Nat.cast_mul, Int.ofNat_toNat, max_comm (0 : Int)]
    exact ⟨rfl, rfl⟩
  · have hnat : min nSet nMax ≠ 0 := by omega
    rw [composedTarget_full hnat, composedTarget_full hnat]
    exact splitTarget_difference hfits hhalf

/-! ### The load level -/

/-- The number of rising thresholds an account has reached. -/
def risenTo (l : SlurryLevels) (account : Nat) : Nat :=
  (if l.up1 ≤ account then 1 else 0) + (if l.up2 ≤ account then 1 else 0) + (if l.up3 ≤ account then 1 else 0)

/-- The number of falling thresholds an account has reached. -/
def heldAt (l : SlurryLevels) (account : Nat) : Nat :=
  (if l.dn1 ≤ account then 1 else 0) + (if l.dn2 ≤ account then 1 else 0) + (if l.dn3 ≤ account then 1 else 0)

/-- The rising pass ends at the number of rising thresholds reached, where it is above the level. -/
theorem risingPass_eq {l : SlurryLevels} (h12 : l.up1 < l.up2) (h23 : l.up2 < l.up3) (account : Nat) {level : Nat}
    (hlevel : level ≤ 3) : risingPass l account 3 level = max level (risenTo l account) := by
  unfold risenTo
  interval_cases level <;> simp only [risingPass, upThreshold] <;> split_ifs <;> omega

/-- The falling pass ends at the number of falling thresholds reached, where it is below the level. -/
theorem fallingPass_eq {l : SlurryLevels} (h12 : l.dn1 < l.dn2) (h23 : l.dn2 < l.dn3) (account : Nat) {level : Nat}
    (hlevel : level ≤ 3) : fallingPass l account level = min (heldAt l account) level := by
  unfold heldAt
  interval_cases level <;> simp only [fallingPass, downThreshold] <;> split_ifs <;> omega

theorem slurryHolds_levels {t : SlurryTable} (h : slurryHolds t = true) :
    (t.levels.up1 < t.levels.up2 ∧ t.levels.up2 < t.levels.up3)
      ∧ t.levels.dn1 < t.levels.dn2 ∧ t.levels.dn2 < t.levels.dn3 := by
  simp only [slurryHolds, Bool.and_eq_true, decide_eq_true_eq] at h
  obtain ⟨⟨⟨⟨⟨h12, h23, -⟩, -⟩, hdown⟩, -⟩, -⟩ := h
  exact ⟨⟨h12, h23⟩, hdown⟩

/-- The level after the two passes. -/
theorem levelAfter_eq {t : SlurryTable} (h : slurryHolds t = true) (account : Nat) {level : Nat} (hlevel : level ≤ 3) :
    levelAfter t.levels account level = min (heldAt t.levels account) (max level (risenTo t.levels account)) := by
  obtain ⟨⟨hu12, hu23⟩, hd12, hd23⟩ := slurryHolds_levels h
  have hrisen : risenTo t.levels account ≤ 3 := by
    unfold risenTo
    split_ifs <;> omega
  unfold levelAfter
  rw [risingPass_eq hu12 hu23 account hlevel, fallingPass_eq hd12 hd23 account (by omega)]

/-! ### The concentration -/

/-- At or above the supply density the concentration is a quotient of naturals. -/
theorem concentration_eq {density supply solids : Nat} (hs : supply < solids) (hd : supply ≤ density) :
    concentration density supply solids = min 1000 (1000 * (density - supply) / (solids - supply)) := by
  have hnum : (1000 * ((density : Int) - supply)) = ((1000 * (density - supply) : Nat) : Int) := by
    push_cast [Nat.cast_sub hd]
    ring
  have hden : (solids : Int) - supply = ((solids - supply : Nat) : Int) := by rw [Nat.cast_sub hs.le]
  unfold concentration clamp
  rw [hnum, hden, Int.tdiv_eq_ediv_of_nonneg (by positivity)]
  norm_cast

/-- At or below the supply density there are no solids. -/
theorem concentration_below {density supply solids : Nat} (hs : supply < solids) (hd : density ≤ supply) :
    concentration density supply solids = 0 := by
  have hquot : (1000 * ((density : Int) - supply)).tdiv ((solids : Int) - supply) ≤ 0 := by
    have hneg : 1000 * ((density : Int) - supply) = -(1000 * ((supply : Int) - density)) := by ring
    rw [hneg, Int.neg_tdiv]
    exact Int.neg_nonpos_of_nonneg (Int.tdiv_nonneg (by omega) (by omega))
  unfold concentration clamp
  omega

/-- Settles O52: the level, the factor of the level, the concentration. -/
theorem slurryFiguresAreFormed : Obligations.SlurryFiguresAreFormed := by
  unfold Obligations.SlurryFiguresAreFormed
  refine ⟨fun t account level h hlevel => levelAfter_eq h account hlevel, ?_, fun density supply solids hs =>
    ⟨concentration_below hs, fun hlow hhigh => ?_, fun hhigh => ?_⟩⟩
  · rintro s l factor rfl hfactor
    have hlevel : levelFactor s.tst.active.slurry.levels s.sru.level = factor := by
      rcases hfactor with ⟨hl, rfl⟩ | ⟨hl, rfl⟩ | ⟨hl, rfl⟩ | ⟨hl, rfl⟩ <;> rw [hl] <;> rfl
    simp only [loadFactor, hlevel]
  · have hpos : 0 < solids - supply := by omega
    have hle : 1000 * (density - supply) / (solids - supply) ≤ 1000 :=
      Nat.div_le_of_le_mul (by rw [Nat.mul_comm]; exact Nat.mul_le_mul_right _ (by omega))
    rw [concentration_eq hs hlow, Nat.min_eq_right hle]
    exact ⟨Nat.div_mul_le_self _ _, Nat.lt_mul_of_div_lt (Nat.lt_succ_self _) hpos⟩
  · have hpos : 0 < solids - supply := by omega
    have hge : 1000 ≤ 1000 * (density - supply) / (solids - supply) :=
      (Nat.le_div_iff_mul_le hpos).mpr (Nat.mul_le_mul_left _ (by omega))
    rw [concentration_eq hs (by omega), Nat.min_eq_left hge]

end Sys2Proof.Machine
